-- ==== Sys2Proof/Word.lean ====
section
/-! DEFINITION. The words of the W7340's two links and of its counters: bytes, the numbers the manual
counts modulo a power of two (frame and slot numbers, HCW sequence numbers), the profile index and the
profile set. Everything the manual measures or counts in a plain range is a `Nat` or an `Int`. -/

namespace Sys2Proof

/-- One byte of either link. -/
abbrev Byte := BitVec 8

/-- A frame or slot number: 0..65535, following 65535 with 0 (00_scope, Arithmetic). -/
abbrev FrameNo := BitVec 16

/-- An HCW sequence number: 0..7, following 7 with 0. -/
abbrev Seq := BitVec 3

/-- A profile index, 0..15; 0 is the most robust profile. -/
abbrev Profile := Fin 16

/-- A set of profile indices; bit k stands for profile k (R183). -/
abbrev ProfileSet := BitVec 16

/-- The 32-bit hop control word as it travels in a record (R184). -/
abbrev HcwWord := BitVec 32

end Sys2Proof
end

