-- ==== Sys2Proof/Syntax.lean ====
section
/-! DEFINITION. The commands of the W7340: one constructor for each row of spec/opcode_table.json, in the
table's order. The table gives its rows no operand bits. A command's operands are what comes from outside
with it: the bytes on a line, the level of an input pin. The rows that TAKE a host request (`unknownKind`
and `getInfo` to `restart`) carry none: a request arrives by `hostMessage`, waits in the input buffer
(R173), and the row is the step in which the controller takes the request at the buffer's front. -/

namespace Sys2Proof

/-- The commands and events of the controller. -/
inductive Instr where
  /-- POWER_ON: the supply rises; the levels of SPD1 and SPD0 (high is `true`), and whether the RESET line
  is asserted meanwhile (R147, R172). -/
  | powerOn (spd1 spd0 resetAsserted : Bool)
  /-- RESET_LINE_ASSERT (R147, R171). -/
  | resetLineAssert
  /-- RESET_LINE_RELEASE, with the levels of SPD1 and SPD0 (R147, R172). -/
  | resetLineRelease (spd1 spd0 : Bool)
  /-- HOST_MESSAGE: bytes arriving on RXD, in order, none more than 10 ms after the one before it (R172). -/
  | hostMessage (bytes : List Byte)
  /-- INTER_BYTE_TIMEOUT (R172). -/
  | interByteTimeout
  /-- MESSAGE_SENT: the last byte of the oldest queued message has been sent (R174). -/
  | messageSent
  /-- UNKNOWN_KIND: the request at the front of the input buffer, of no request kind, is taken (R173). -/
  | unknownKind
  /-- GET_INFO (R175). -/
  | getInfo
  /-- SET_SETTING (R176). -/
  | setSetting
  /-- GET_SETTING (R176). -/
  | getSetting
  /-- WRITE_PROFILE (R3). -/
  | writeProfile
  /-- READ_PROFILE (R4). -/
  | readProfile
  /-- SWAP_TABLE (R6, R7). -/
  | swapTable
  /-- LINK_START (R137). -/
  | linkStart
  /-- LINK_STOP (R138). -/
  | linkStop
  /-- FORCE (R72). -/
  | force
  /-- PILOT_NOW (R120). -/
  | pilotNow
  /-- READ_STATUS (R179). -/
  | readStatus
  /-- READ_HISTORY (R34). -/
  | readHistory
  /-- READ_FADES (R54). -/
  | readFades
  /-- READ_BIN (R169). -/
  | readBin
  /-- EVENT_ENABLE (R177). -/
  | eventEnable
  /-- CLEAR_EVENTS (R177). -/
  | clearEvents
  /-- READ_EVENTS (R177). -/
  | readEvents
  /-- WATCH (R180). -/
  | watch
  /-- RESTART, the request (R181). -/
  | restart
  /-- RESTART_TAKES_EFFECT: the last byte of the RESTART reply has been sent (R148, R181). -/
  | restartTakesEffect
  /-- WATCH_REPORT: the oldest triggered watch report is assembled (R180). -/
  | watchReport
  /-- RX_METRICS: a modem-link transfer whose first byte is 0xD1; the operand is the bytes after it (R150). -/
  | rxMetrics (rest : List Byte)
  /-- UNKNOWN_RECORD: a modem-link transfer whose first byte is neither 0xD1 nor 0xD2 (R150). -/
  | unknownRecord (bytes : List Byte)
  /-- SWAP_TIMEOUT (R9). -/
  | swapTimeout
  /-- ANSWER_TIMER_EXPIRY (R92). -/
  | answerTimerExpiry
  /-- SWITCH_MISSED (R93). -/
  | switchMissed
  /-- BACKOFF_EXPIRY (R96). -/
  | backoffExpiry
  /-- SILENCE_TIMER_EXPIRY (R158). -/
  | silenceTimerExpiry
  /-- ACQ_TIMEOUT (R142). -/
  | acqTimeout
  /-- TX_SLOT: a modem-link transfer whose first byte is 0xD2; the bytes after it, and the level of TXLIM
  (asserted is `true`), sampled if the slot is taken now (R130, R161). -/
  | txSlot (rest : List Byte) (txlim : Bool)
  /-- DESCRIPTOR_SENT: the descriptor being returned has been sent; the level of TXLIM, sampled if a waiting
  slot is then taken (R130, R161). -/
  | descriptorSent (txlim : Bool)
  /-- PILOT_TIMER_EXPIRY (R117). -/
  | pilotTimerExpiry
  /-- SECOND_END (R165). -/
  | secondEnd
  deriving DecidableEq, Repr

end Sys2Proof
end

