-- ==== Sys2Proof/Decode.lean ====
section
/-! DEFINITION. `decodeTableWord` over the rows of spec/opcode_table.json that give bits. NONE DOES: every row
has an empty "fields" and no pattern, because the W7340 is a block that is given commands, not words. The
byte layouts of its messages and records are read in Machine/Operands.lean. -/

namespace Sys2Proof

/-- The command a word spells by the table's bits: none, since no row of the table has bits. -/
def decodeTableWord (_nbits _w : Nat) : Option Instr := none

end Sys2Proof
end

