-- ==== Sys2Proof/Config.lean ====
section
/-! DEFINITION. What the part fixes (capacities, the identity GET_INFO reports) and the free values: the
choices the manual leaves open, as constants with no body. -/

namespace Sys2Proof

/-- The parts of the controller that handle one entry, each as one action (R16, R88, R141, R146). The
manual lets them act "in either order" wherever no rule orders them. -/
inductive EntryBlock where
  | estimator      -- Channel Estimator, its five stages (R16)
  | fadeTracker    -- Fade Tracker (R39)
  | decision       -- Decision Unit (R57)
  | hopSignalling  -- Hop Signalling Unit, its five steps (R88)
  | powerReceive   -- Power Control Unit, receive side (R125)
  | powerTransmit  -- Power Control Unit, transmit side (R126, R127)
  | monitor        -- Performance Monitor (R164, R168)
  | farMask        -- Profile Table, far mask halves (R11)
  | swap           -- Profile Table, attempt at a pending swap (R8, R9)
  | linkState      -- Link State Controller (R139, R141, R144, R145)
  deriving DecidableEq, Repr, Inhabited

/-- Where, among the Builder's steps of one slot, the Profile Table makes its attempt at a pending swap.
R8 allows the attempt before or after the transmit record has given up its staged part. -/
inductive SwapPlace where
  | before   -- before step 1 of the slot
  | middle   -- after step 3, before the descriptor is filled
  | after    -- after the descriptor is filled
  deriving DecidableEq, Repr, Inhabited

/-- Points within a slot in RUN at which a watch report may be assembled, as an event of its own (R180). -/
inductive SlotPoint where
  | switched   -- after steps 1 to 3 of the slot
  | attempted  -- after the attempt at a pending swap that may follow them
  | filled     -- after the descriptor is filled
  deriving DecidableEq, Repr, Inhabited

namespace Config

/-- Entries the history ring holds (R32). -/
def historyCapacity : Nat := 512

/-- Records the fade log holds (R53). -/
def fadeLogCapacity : Nat := 32

/-- Closed bins the ring of bins holds (R168). -/
def closedRingCapacity : Nat := 32

/-- Messages the output queue holds (R174). -/
def outQueueCapacity : Nat := 8

/-- Complete messages the input buffer holds (R173). -/
def inBufferCapacity : Nat := 2

/-- Seconds in a bin (R168). -/
def binSeconds : Nat := 900

/-- Good-header entries showing SYNC or HALT that end RUN (R144). -/
def farPhaseLimit : Nat := 16

/-- Consecutive entries without a good header that end RUN (R145). -/
def missingHeaderLimit : Nat := 64

/-- Halt-notice descriptors after LINK_STOP (R114). -/
def haltNoticeLength : Nat := 32

/-- Pilots owed at which the count stops (R118). -/
def pilotDebtLimit : Nat := 8

/-- Entries a pending swap may wait (R9). -/
def swapEntryLimit : Nat := 256

/-- Milliseconds that may pass between two bytes of a host message (R172). -/
def interByteLimit : Nat := 10

/-- The product code GET_INFO reports (R175). -/
def productCode : Nat := 0x7340

/-- The revision number GET_INFO reports (R175). -/
def revision : Nat := 1

/-- FREE VALUE (assumption 1). The order in which the blocks handle the k-th entry. The manual orders the
Estimator before four of them (R16) and leaves the rest to "either order"; `Machine.entryOrder` keeps
what the manual fixes and takes the rest from here. -/
opaque freeEntryOrder : Nat → List EntryBlock

/-- FREE VALUE (assumption 2). Where in the k-th slot the attempt at a pending swap falls (R8). -/
opaque freeSwapPlace : Nat → SwapPlace

/-- FREE VALUE (assumption 3). The stress sum of an open fade when the exit accumulators are folded into it
and the stress count passes 16777215 part of the way through the fold (R43, R44). Arguments: the
record's sum and the accumulators' sum. -/
opaque freeStressFold : Nat → Nat → Nat

/-- FREE VALUE (assumption 9). The urgency that status group 2 carries while there is no last result (R79, R183). -/
opaque freeAbsentUrgency : Nat → Bool

/-- FREE VALUE (assumption 29). Whether the first entry after a fade has closed as RECOVERED carries in_fade yes.
R33 and R45 say that it does; R29 gives in_fade the state left by the entry before, which is CLEAR. -/
opaque freeFadeAfterClose : Nat → Bool

/-- FREE VALUE (assumption 30). Whether the watch reports that wait are assembled at the k-th entry right after
the given block has handled it (R38, R79, R180). -/
opaque freeReportAfter : Nat → EntryBlock → Bool

/-- FREE VALUE (assumption 30). Whether the watch reports that wait are assembled at the given point within the
k-th slot (R180). -/
opaque freeReportInSlot : Nat → SlotPoint → Bool

/-- FREE VALUE (assumption 31). Whether held A takes A after R133 has set it, at a slot outside RUN at which the
limit state becomes LIMITED (R131). -/
opaque freeHeldAfter : Nat → Bool

/-- FREE VALUE (assumption 35). Whether the transmit side reads, at the k-th entry, atpc_mode as the last slot in RUN
took it (R129) and not as it is set (R134, R176). -/
opaque freeModeWaits : Nat → Bool

end Config

end Sys2Proof
end

