-- ==== Sys2Proof/Machine/State.lean ====
section
/-! DEFINITION. The state of the W7340, block by block as the table of blocks in 00_scope lists it, and
`State.reset`. Every item is plain data. Where the manual names one fact twice (the fade flag and the open
record, ATTN's level and the flags) it is said beside the field which of the two is stored. -/

namespace Sys2Proof.Machine

/-! ## Profile Table (chapter 1) -/

/-- R1: the modulations, in the order of the rule. -/
inductive Modulation where
  | qpsk | qam16 | qam32 | qam64 | qam128 | qam256 | qam512 | qam1024 | qam2048 | qam4096
  deriving DecidableEq, Repr

/-- R1: the code rates 1/2, 2/3, 3/4, 5/6, 9/10, in the order of the rule. -/
inductive CodeRate where
  | half | twoThirds | threeQuarters | fiveSixths | nineTenths
  deriving DecidableEq, Repr

/-- One row of a profile table (R1). -/
structure ProfileRow where
  enabled    : Bool
  modulation : Modulation
  codeRate   : CodeRate
  capacity   : Nat
  tDown      : Nat
  tUp        : Nat
  backoff    : Nat
  deriving DecidableEq, Repr

/-- Sixteen rows, one for each profile index (R1). -/
abbrev Table := Vector ProfileRow 16

/-- R2: a disabled row with every field zero. -/
def ProfileRow.zero : ProfileRow :=
  { enabled := false, modulation := .qpsk, codeRate := .half, capacity := 0, tDown := 0, tUp := 0,
    backoff := 0 }

/-- R2: row 0 of the default table. -/
def ProfileRow.default0 : ProfileRow :=
  { enabled := true, modulation := .qpsk, codeRate := .half, capacity := 10, tDown := 40, tUp := 70,
    backoff := 0 }

/-- R2: the default table. -/
def Table.default : Table :=
  (Vector.replicate 16 ProfileRow.zero).set 0 ProfileRow.default0

/-- State of the Profile Table (R1, R4, R10, R11, R13). -/
structure ProfileTable where
  /-- the table every block reads -/
  active      : Table
  /-- the table the host writes -/
  shadow      : Table
  /-- the pending swap: absent, or the count of entries since it was accepted (section 1.4) -/
  pendingSwap : Option Nat
  /-- R10 -/
  ownMask     : ProfileSet
  /-- R11: far mask half 0, profiles 0..7, and its received mark -/
  farHalf0    : BitVec 8
  mark0       : Bool
  /-- R11: far mask half 1, profiles 8..15, and its received mark -/
  farHalf1    : BitVec 8
  mark1       : Bool
  /-- R13: the negotiated set N -/
  negotiated  : ProfileSet
  deriving DecidableEq, Repr

/-- R2, R10, R12, R13: the Profile Table after power-on and after the RESET line. -/
def ProfileTable.initial : ProfileTable :=
  { active := Table.default, shadow := Table.default, pendingSwap := none, ownMask := 1#16,
    farHalf0 := 1#8, mark0 := false, farHalf1 := 0#8, mark1 := false, negotiated := 1#16 }

/-! ## Channel Estimator (chapter 2) -/

/-- R33: one entry of the history ring. -/
structure HistoryEntry where
  frame         : FrameNo
  e             : Nat
  s             : Nat
  p             : Nat
  d             : Int
  rsl           : Int
  rxProfile     : Option Profile
  held          : Bool
  resumed       : Bool
  pilot         : Bool
  mainValid     : Bool
  spaceValid    : Bool
  uncorrectable : Bool
  inFade        : Bool
  headerValid   : Bool
  deriving DecidableEq, Repr

/-- State of the Channel Estimator. -/
structure Estimator where
  /-- R30: the branch calibration offsets, tenths of a dB -/
  offMain  : Int
  offSpace : Int
  /-- section 2.4: S16, absent while unseeded -/
  s16      : Option Nat
  /-- R27 -/
  hold     : Nat
  /-- R27, R28 -/
  starved  : Bool
  /-- R32: the history ring, NEWEST FIRST, so that an entry's age is its place in the list -/
  ring     : List HistoryEntry
  deriving DecidableEq, Repr

/-- R35: after power-on and the RESET line. -/
def Estimator.initial : Estimator :=
  { offMain := 0, offSpace := 0, s16 := none, hold := 0, starved := false, ring := [] }

/-! ## Fade Tracker (chapter 3) -/

/-- R39: what the entries of a run would add to a fade record. -/
structure RunAccumulators where
  duration    : Nat
  lowS        : Nat
  stressSum   : Nat
  stressCount : Nat
  deriving DecidableEq, Repr

/-- An empty run's accumulators; 500 is the top of S's range, so any S is at or below it. -/
def RunAccumulators.empty : RunAccumulators :=
  { duration := 0, lowS := 500, stressSum := 0, stressCount := 0 }

/-- R49: the kind of a fade. -/
inductive FadeKind where
  | flat | selective
  deriving DecidableEq, Repr

/-- R53: why a fade closed. -/
inductive EndedBy where
  | recovered | linkLost | stopped | restart
  deriving DecidableEq, Repr

/-- R42: the record of the open fade. -/
structure OpenFade where
  id          : Nat
  start       : FrameNo
  duration    : Nat
  minS        : Nat
  rOpen       : Profile
  lowR        : Profile
  downshifts  : Nat
  urgents     : Nat
  stressSum   : Nat
  stressCount : Nat
  deriving DecidableEq, Repr

/-- R53: a closed fade record. -/
structure FadeRecord where
  body     : OpenFade
  maxDepth : Nat
  kind     : FadeKind
  endedBy  : EndedBy
  deriving DecidableEq, Repr

/-- State of the Fade Tracker (R39). The fade state is IN_FADE exactly when the open record is present, so the
record is what is stored. -/
structure FadeTracker where
  entryLen   : Nat
  entryFirst : FrameNo
  entryAcc   : RunAccumulators
  exitLen    : Nat
  exitAcc    : RunAccumulators
  openFade   : Option OpenFade
  longMark   : Bool
  /-- the MODEL's own mark: the entry handled last closed a fade as RECOVERED (assumption 29) -/
  justClosed : Bool
  idCounter  : Nat
  /-- R53: the fade log, oldest first -/
  log        : List FadeRecord
  deriving DecidableEq, Repr

/-- R51: after power-on and the RESET line. -/
def FadeTracker.initial : FadeTracker :=
  { entryLen := 0, entryFirst := 0#16, entryAcc := .empty, exitLen := 0, exitAcc := .empty,
    openFade := none, longMark := false, justClosed := false, idCounter := 0, log := [] }

/-- R39, R52: the fade flag, set exactly in IN_FADE. -/
def FadeTracker.inFade (f : FadeTracker) : Bool := f.openFade.isSome

/-! ## Decision Unit (chapter 4) -/

/-- R58: the rule names of the last result, in the order of the rule. -/
inductive RuleName where
  | starved | urgent | outOfSet | downshift | error | upshift | pinned | none
  deriving DecidableEq, Repr

/-- R58: the outcome of the latest entry handled. -/
structure DecisionResult where
  rule   : RuleName
  target : Profile
  urgent : Bool
  deriving DecidableEq, Repr

/-- R72: the force mode. -/
inductive ForceMode where
  | auto
  | ceiling (c : Profile)
  | pinned (p : Profile)
  deriving DecidableEq, Repr

/-- State of the Decision Unit (R58). -/
structure DecisionUnit where
  holdoff     : Nat
  /-- the error window's uncorrectable flags, OLDEST FIRST -/
  errorWindow : List Bool
  downDwell   : Nat
  upCandidate : Option Profile
  upDwell     : Nat
  force       : ForceMode
  last        : Option DecisionResult
  deriving DecidableEq, Repr

/-- R77: after every reset. -/
def DecisionUnit.initial : DecisionUnit :=
  { holdoff := 0, errorWindow := [], downDwell := 0, upCandidate := none, upDwell := 0,
    force := .auto, last := none }

/-! ## Hop Signalling Unit (chapter 5) -/

/-- R80: the phase field of an HCW. -/
inductive Phase where
  | sync | caps | run | halt
  deriving DecidableEq, Repr

/-- R80: the kind of an ask; the fourth code is read as NONE. -/
inductive AskKind where
  | none | ask | urgent
  deriving DecidableEq, Repr

/-- R80: the kind of an answer; the fourth code is read as NONE. -/
inductive AnswerKind where
  | none | agree | decline
  deriving DecidableEq, Repr

/-- R80: a power request. -/
inductive PowerRequest where
  | none | up | down | fastUp
  deriving DecidableEq, Repr

/-- R80: the fields of a hop control word. -/
structure Hcw where
  phase      : Phase
  askKind    : AskKind
  askSeq     : Seq
  askProfile : Profile
  ansKind    : AnswerKind
  ansSeq     : Seq
  ansValue   : BitVec 4
  powerReq   : PowerRequest
  fade       : Bool
  /-- which half of the sender's own mask `capsByte` carries: half 1 is `true` -/
  capsHalf   : Bool
  capsByte   : BitVec 8
  deriving DecidableEq, Repr

/-- R87: the states of the request lane. -/
inductive LaneState where
  | steady | asking | switching | backoff
  deriving DecidableEq, Repr

/-- R87: the pending ask. -/
structure PendingAsk where
  profile : Profile
  urgent  : Bool
  deriving DecidableEq, Repr

/-- R87: the request lane. -/
structure RequestLane where
  state        : LaneState
  seq          : Seq
  pending      : Option PendingAsk
  answerTimer  : Nat
  deadline     : Nat
  backoffTimer : Nat
  timeouts     : Nat
  /-- the MODEL's own mark: the running timer was loaded at the entry being handled (R88 step 4) -/
  fresh        : Bool
  deriving DecidableEq, Repr

/-- R97: after every reset, and at every entry to SYNC. -/
def RequestLane.initial : RequestLane :=
  { state := .steady, seq := 0#3, pending := none, answerTimer := 0, deadline := 0,
    backoffTimer := 0, timeouts := 0, fresh := false }

/-- R98: the answer lane. -/
structure AnswerLane where
  lastTaken : Option Seq
  kind      : AnswerKind
  seq       : Seq
  value     : BitVec 4
  deriving DecidableEq, Repr

/-- R103: after every reset, and at every entry to SYNC. -/
def AnswerLane.initial : AnswerLane :=
  { lastTaken := none, kind := .none, seq := 0#3, value := 0#4 }

/-- R83: the far view. -/
structure FarView where
  phase      : Phase
  fade       : Bool
  askKind    : AskKind
  askSeq     : Seq
  askProfile : Profile
  ansKind    : AnswerKind
  ansSeq     : Seq
  ansValue   : BitVec 4
  powerReq   : PowerRequest
  deriving DecidableEq, Repr

/-- R84: the initial value of the far view. -/
def FarView.initial : FarView :=
  { phase := .sync, fade := false, askKind := .none, askSeq := 0#3, askProfile := 0,
    ansKind := .none, ansSeq := 0#3, ansValue := 0#4, powerReq := .none }

/-- State of the Hop Signalling Unit. -/
structure HopSignalling where
  lane   : RequestLane
  answer : AnswerLane
  far    : FarView
  /-- R85: the receive profile r -/
  r      : Profile
  deriving DecidableEq, Repr

/-- R84, R85, R97, R103. -/
def HopSignalling.initial : HopSignalling :=
  { lane := .initial, answer := .initial, far := .initial, r := 0 }

/-! ## Transmit Frame Builder (chapter 6) -/

/-- R106: the staged switch. -/
structure StagedSwitch where
  profile   : Profile
  countdown : Nat
  seq       : Seq
  deriving DecidableEq, Repr

/-- R106: the transmit record. -/
structure TransmitRecord where
  active       : Profile
  staged       : Option StagedSwitch
  owed         : Nat
  /-- absent while the pilot timer is stopped -/
  pilotTimer   : Option Nat
  /-- R117: a SET of pilot_interval has been answered OK and no slot has come since -/
  pilotReload  : Bool
  lastPilot    : Bool
  haltCount    : Nat
  expectedSlot : FrameNo
  /-- the half of the own mask the next descriptor carries: half 1 is `true` -/
  nextHalf     : Bool
  deriving DecidableEq, Repr

/-- R106: the transmit record after a reset, its pilot timer loaded with `pilotInterval`, or stopped when that
is 0. -/
def TransmitRecord.initial (pilotInterval : Nat) : TransmitRecord :=
  { active := 0, staged := none, owed := 0,
    pilotTimer := if pilotInterval = 0 then none else some pilotInterval,
    pilotReload := false, lastPilot := false, haltCount := 0, expectedSlot := 0#16,
    nextHalf := false }

/-! ## Power Control Unit (chapter 7) -/

/-- R129, R134: the mode of the loop, setting 24. -/
inductive AtpcMode where
  | auto | fixed
  deriving DecidableEq, Repr

/-- R122: the filtered state of TXLIM. -/
inductive LimitState where
  | released | limited
  deriving DecidableEq, Repr

/-- R130: a level of TXLIM. -/
inductive LimitSample where
  | asserted | released
  deriving DecidableEq, Repr

/-- State of the Power Control Unit (R122). -/
structure PowerControl where
  /-- the attenuation A -/
  a          : Nat
  heldA      : Option Nat
  limit      : LimitState
  lastSample : Option LimitSample
  rateCount  : Nat
  request    : PowerRequest
  /-- the MODEL's own: atpc_mode as the last slot in RUN took it (R129, assumption 35) -/
  slotMode   : AtpcMode
  deriving DecidableEq, Repr

/-- R122: after power-on and the RESET line; A is atten_max as it then stands, and the mode is the default (R134). -/
def PowerControl.initial (attenMax : Nat) : PowerControl :=
  { a := attenMax, heldA := none, limit := .released, lastSample := none, rateCount := 0,
    request := .none, slotMode := .auto }

/-! ## Link State Controller (chapter 8) -/

/-- R136: the link states. -/
inductive LinkPhase where
  | config | sync | caps | run
  deriving DecidableEq, Repr

/-- R136: the reset causes. -/
inductive ResetCause where
  | powerOn | resetLine | restart
  deriving DecidableEq, Repr

/-- State of the Link State Controller (R136). -/
structure LinkControl where
  state    : LinkPhase
  /-- the acquisition timer's remaining milliseconds, absent while stopped -/
  acqTimer : Option Nat
  farWatch : Nat
  missing  : Nat
  cause    : ResetCause
  deriving DecidableEq, Repr

/-- R136, R147, R148: after a reset of the given cause. -/
def LinkControl.initial (c : ResetCause) : LinkControl :=
  { state := .config, acqTimer := none, farWatch := 0, missing := 0, cause := c }

/-! ## Modem Link Intake (chapter 9) -/

/-- R151: the intake states. -/
inductive IntakeState where
  | idle | search | locked | resync
  deriving DecidableEq, Repr

/-- A TX_SLOT record as the Intake keeps it (R150, R161): whether its check is good, and its number. -/
structure SlotRecord where
  good   : Bool
  number : FrameNo
  deriving DecidableEq, Repr

/-- R112, R113, R114: a transmit descriptor. -/
structure Descriptor where
  echo        : FrameNo
  profile     : Profile
  attenuation : Nat
  mute        : Bool
  pilot       : Bool
  hcw         : Hcw
  deriving DecidableEq, Repr

/-- A descriptor being returned on the data-out line, with the twelve bytes of its record (R150, R184). -/
structure Sending where
  descriptor : Descriptor
  record     : List Byte
  deriving DecidableEq, Repr

/-- State of the Modem Link Intake (R151). -/
structure Intake where
  state       : IntakeState
  expected    : FrameNo
  runLen      : Nat
  runLast     : FrameNo
  badCount    : Nat
  resyncCount : Nat
  /-- the silence timer's remaining milliseconds, absent while stopped -/
  silence     : Option Nat
  waiting     : Option SlotRecord
  /-- R151, R161: the descriptor being returned, if one is -/
  sending     : Option Sending
  deriving DecidableEq, Repr

/-- R151: after power-on and after release of the RESET line. -/
def Intake.initial : Intake :=
  { state := .idle, expected := 0#16, runLen := 0, runLast := 0#16, badCount := 0,
    resyncCount := 0, silence := none, waiting := none, sending := none }

/-! ## Performance Monitor (chapter 10) -/

/-- R165: the class of a second. -/
inductive SecondClass where
  | ok | es | ses
  deriving DecidableEq, Repr

/-- Section 10.2: the availability state. -/
inductive Availability where
  | available | unavailable
  deriving DecidableEq, Repr

/-- Section 10.2: a classified second of the pending window, with the number of its bin. -/
structure PendingSecond where
  cls : SecondClass
  bin : Nat
  deriving DecidableEq, Repr

/-- R168: a performance bin. -/
structure Bin where
  number     : Nat
  seconds    : Nat
  truncated  : Bool
  es         : Nat
  ses        : Nat
  uas        : Nat
  perProfile : Vector Nat 16
  downshifts : Nat
  upshifts   : Nat
  urgents    : Nat
  fades      : Nat
  minS       : Option Nat
  maxS       : Option Nat
  deriving DecidableEq, Repr

/-- R171: a bin as it opens. -/
def Bin.fresh (n : Nat) : Bin :=
  { number := n, seconds := 0, truncated := false, es := 0, ses := 0, uas := 0,
    perProfile := Vector.replicate 16 0, downshifts := 0, upshifts := 0, urgents := 0, fades := 0,
    minS := none, maxS := none }

/-- State of the Performance Monitor. -/
structure Monitor where
  /-- R164: t, h, u and the degraded mark of the second in progress -/
  t            : Nat
  h            : Nat
  u            : Nat
  degraded     : Bool
  availability : Availability
  /-- section 10.2: the pending window, oldest first -/
  window       : List PendingSecond
  /-- the bin whose seconds are in progress -/
  current      : Bin
  /-- which second of the current bin is in progress, 0..899 -/
  secondIndex  : Nat
  /-- the bin before the current one, while it is still open -/
  earlier      : Option Bin
  /-- R168: the closed ring, oldest first -/
  closed       : List Bin
  /-- the MODEL's own count of the milliseconds of the second in progress, 0..999 (assumption 5) -/
  millis       : Nat
  deriving DecidableEq, Repr

/-- R164, R171: the monitor as the first second begins with bin `n`. The degraded mark is set at once, since
the controller starts in CONFIG. -/
def Monitor.start (n : Nat) (ring : List Bin) : Monitor :=
  { t := 0, h := 0, u := 0, degraded := true, availability := .unavailable, window := [],
    current := Bin.fresh n, secondIndex := 0, earlier := none, closed := ring, millis := 0 }

/-! ## Host Link Unit (chapter 11) -/

/-- A complete host message: its kind, its tag and its payload (R172). -/
structure Message where
  kind    : Byte
  tag     : Byte
  payload : List Byte
  deriving DecidableEq, Repr

/-- R177: the event flags, in the order of their numbers. -/
inductive EventFlag where
  | linkUp | linkLoss | acqTimeout | rxSwitch | txSwitch | handshakeLost | switchMissed | rxUnexpected
  | fadeStart | fadeEnd | longFade | starved | resync | pilotOverdue | txlimChange | tableSwapped
  | swapTimeout | hostOverrun | availabilityChange | binClosed | fadeLogDrop | watchDropped
  deriving DecidableEq, Repr

/-- R180: the watch modes. -/
inductive WatchMode where
  | off | once | periodic | onSwitch
  deriving DecidableEq, Repr

/-- R180: what triggered a watch report. -/
inductive WatchTrigger where
  | once | periodic | rxChange | txChange
  deriving DecidableEq, Repr

/-- R180: the watch state. -/
structure WatchState where
  mode      : WatchMode
  mask      : BitVec 6
  period    : Nat
  counter   : Nat
  report    : BitVec 16
  /-- reports triggered and not yet assembled, oldest first -/
  triggered : List WatchTrigger
  deriving DecidableEq, Repr

/-- R180: after every reset. -/
def WatchState.initial : WatchState :=
  { mode := .off, mask := 0#6, period := 0, counter := 0, report := 0#16, triggered := [] }

/-- State of the Host Link Unit (R172 to R181); the settings stand in `Settings`. -/
structure HostLink where
  /-- R172: hunting (absent), or collecting, with the bytes after the sync byte so far -/
  collecting : Option (List Byte)
  /-- R172: milliseconds since the last byte of the message being collected (assumption 5) -/
  quiet      : Nat
  /-- R173: complete messages not yet taken, oldest first -/
  inBuf      : List Message
  /-- R174: the output queue, oldest first -/
  outQueue   : List Message
  /-- R177: the raised flags, bit n for flag n -/
  raised     : BitVec 22
  /-- R177: the enables -/
  enabled    : BitVec 22
  /-- R178: the level of ATTN, asserted is `true` -/
  attn       : Bool
  watch      : WatchState
  /-- R181: a RESTART has been taken and its reply has not been sent -/
  restarting : Bool
  /-- R172, R175: the host-link rate code read from the straps, 0..3 -/
  rateCode   : Nat
  deriving DecidableEq, Repr

/-- R177: the enables after power-on and the RESET line: LINK_UP, LINK_LOSS, STARVED, SWAP_TIMEOUT and
HOST_OVERRUN, which are flags 0, 1, 11, 16 and 17. -/
def HostLink.defaultEnables : BitVec 22 := 0x030803#22

/-- R172, R174, R177, R180: after power-on and the RESET line, before STARTED is queued. -/
def HostLink.initial (rateCode : Nat) : HostLink :=
  { collecting := none, quiet := 0, inBuf := [], outQueue := [], raised := 0#22,
    enabled := defaultEnables, attn := false, watch := .initial, restarting := false,
    rateCode := rateCode }

/-! ## Settings (R176) -/

/-- Setting 1. -/
inductive DivMode where
  | combine | select | main | space
  deriving DecidableEq, Repr

/-- The 35 settings in the order of their ids (R176). -/
structure Settings where
  divMode         : DivMode
  stressWeight    : Nat
  smoothDown      : Nat
  smoothUp        : Nat
  horizon         : Nat
  holdLimit       : Nat
  clearSky        : Nat
  fadeEnter       : Nat
  fadeExit        : Nat
  fadePersist     : Nat
  fadeLimit       : Nat
  stressSelective : Nat
  urgentMargin    : Nat
  downDwell       : Nat
  upDwell         : Nat
  upHoldoff       : Nat
  errorOverride   : Bool
  switchLead      : Nat
  switchGuard     : Nat
  askTimeout      : Nat
  askBackoff      : Nat
  acqTimeout      : Nat
  pilotInterval   : Nat
  atpcMode        : AtpcMode
  fixedAtten      : Nat
  attenMax        : Nat
  rslLow          : Int
  rslHigh         : Int
  powerInterval   : Nat
  lockCount       : Nat
  badLimit        : Nat
  resyncLimit     : Nat
  recordTimeout   : Nat
  sesPercent      : Nat
  unavailRun      : Nat
  deriving DecidableEq, Repr

/-- R176: every default. -/
def Settings.default : Settings :=
  { divMode := .combine, stressWeight := 8, smoothDown := 1, smoothUp := 4, horizon := 16,
    holdLimit := 4, clearSky := 300, fadeEnter := 60, fadeExit := 30, fadePersist := 3,
    fadeLimit := 40000, stressSelective := 96, urgentMargin := 20, downDwell := 1, upDwell := 32,
    upHoldoff := 400, errorOverride := true, switchLead := 4, switchGuard := 4, askTimeout := 24,
    askBackoff := 64, acqTimeout := 5000, pilotInterval := 2000, atpcMode := .auto,
    fixedAtten := 10, attenMax := 31, rslLow := -100, rslHigh := -80, powerInterval := 8,
    lockCount := 16, badLimit := 8, resyncLimit := 64, recordTimeout := 20, sesPercent := 30,
    unavailRun := 10 }

/-! ## The RESET line -/

/-- R147: the RESET line and what starts at its release. -/
structure ResetLine where
  /-- the line is asserted, and the controller is held -/
  asserted  : Bool
  /-- the supply rose while the line was asserted, so the start at its release is a power-on start -/
  coldStart : Bool
  deriving DecidableEq, Repr

/-! ## The machine -/

/-- The state of the controller, and the queue of the commands that wait for it. -/
structure State where
  /-- commands waiting, first in, first out -/
  pending   : List Instr
  resetLine : ResetLine
  table     : ProfileTable
  est       : Estimator
  fade      : FadeTracker
  decision  : DecisionUnit
  hop       : HopSignalling
  tx        : TransmitRecord
  power     : PowerControl
  link      : LinkControl
  intake    : Intake
  monitor   : Monitor
  host      : HostLink
  settings  : Settings
  /-- the MODEL's own counter, moved on at every entry and every slot: the argument of the free values
  (assumptions 1, 2, 9, 29, 30, 31 and 35) -/
  freeCount : Nat
  deriving DecidableEq, Repr

/-- Why the machine could stop with a fault. NO CONSTRUCTOR: the manual names no condition that stops the
controller; a bad message, record or request is discarded or answered, and that is a next state. -/
inductive Fault where
  deriving DecidableEq, Repr

/-- Why the machine refuses a command. -/
inductive Refusal where
  /-- Raised only by an arm of `exec` whose command has no meaning yet. Safe: a claim about such a command
  cannot be proved. No arm raises it now. -/
  | notModelled (mnemonic : String)
  deriving DecidableEq, Repr

/-- R147: the STARTED notice, kind 0x40, tag 0, carrying the code of the reset cause (R182, R183). -/
def startedNotice (c : ResetCause) : Message :=
  { kind := 0x40#8, tag := 0#8,
    payload := [match c with | .powerOn => 0#8 | .resetLine => 1#8 | .restart => 2#8] }

/-- The controller right after POWER_ON with both straps low and the RESET line released (R147), its queue of
commands empty. The straps' levels are the outside's (assumption 6). -/
def State.reset : State :=
  { pending := [], resetLine := { asserted := false, coldStart := false },
    table := .initial, est := .initial, fade := .initial, decision := .initial, hop := .initial,
    tx := .initial Settings.default.pilotInterval, power := .initial Settings.default.attenMax,
    link := .initial .powerOn, intake := .initial, monitor := .start 0 [],
    host := { HostLink.initial 0 with outQueue := [startedNotice .powerOn] },
    settings := .default, freeCount := 0 }

end Sys2Proof.Machine
end

