-- ==== Sys2Proof/Machine/Operands.lean ====
section
/-! DEFINITION. The operand forms and wire formats of both links (R150, R172, R182, R183, R184): byte order, the
check, the codes of the enumerations, records, the hop control word, descriptors and the host envelope. -/

namespace Sys2Proof.Machine

/-! ## Numbers -/

/-- "Clamp": a value outside `lo..hi` is replaced by the nearer end (00_scope, Terms). -/
def clampInt (lo hi v : Int) : Int := if v < lo then lo else if hi < v then hi else v

/-- `clampInt` into a range of natural numbers. -/
def clampNat (lo hi : Nat) (v : Int) : Nat := (clampInt lo hi v).toNat

/-- A counter that stops at `top`. -/
def saturate (top n : Nat) : Nat := min top n

/-! ## Bytes, little-endian on both links -/

def byteAt (bs : List Byte) (i : Nat) : Byte := bs.getD i 0#8

def wordAt (bs : List Byte) (i : Nat) : BitVec 16 := byteAt bs (i + 1) ++ byteAt bs i

def doubleAt (bs : List Byte) (i : Nat) : BitVec 32 := wordAt bs (i + 2) ++ wordAt bs i

def le8 (n : Nat) : List Byte := [BitVec.ofNat 8 n]

def le16 (w : BitVec 16) : List Byte := [w.extractLsb' 0 8, w.extractLsb' 8 8]

def le32 (w : BitVec 32) : List Byte := le16 (w.extractLsb' 0 16) ++ le16 (w.extractLsb' 16 16)

def leNat16 (n : Nat) : List Byte := le16 (BitVec.ofNat 16 n)

def leNat32 (n : Nat) : List Byte := le32 (BitVec.ofNat 32 n)

/-- R183: a signed value, two's complement, 2 bytes. -/
def leInt16 (v : Int) : List Byte := le16 (BitVec.ofInt 16 v)

/-- R183: a setting value, two's complement, 4 bytes. -/
def leInt32 (v : Int) : List Byte := le32 (BitVec.ofInt 32 v)

/-- R183: a yes/no, set/clear or mark is sent as 1 or 0. -/
def leBool (b : Bool) : List Byte := [if b then 1#8 else 0#8]

/-- R183: on receipt of a yes/no the lowest bit counts. -/
def boolOf (b : Byte) : Bool := b.getLsbD 0

/-- R183: 0xFF when absent or none. -/
def leOpt (o : Option Nat) : List Byte := [match o with | none => 0xFF#8 | some n => BitVec.ofNat 8 n]

/-! ## The check (R150) -/

/-- One bit of the CRC: polynomial x^16 + x^12 + x^5 + 1, most significant bit first. -/
def crcShift (c : BitVec 16) : BitVec 16 := if c.msb then (c <<< 1) ^^^ 0x1021#16 else c <<< 1

/-- One byte of the CRC. -/
def crcByte (c : BitVec 16) (b : Byte) : BitVec 16 :=
  crcShift (crcShift (crcShift (crcShift (crcShift (crcShift (crcShift (crcShift
    (c ^^^ (b.setWidth 16 <<< 8)))))))))

/-- The CRC-16 of both links: the register starts at all ones, no final inversion. -/
def crc16 (bs : List Byte) : BitVec 16 := bs.foldl crcByte 0xFFFF#16

/-- The bytes of a record or message, and then its check, little-endian. -/
def withCheck (bs : List Byte) : List Byte := bs ++ le16 (crc16 bs)

/-- R150: a good check: the record has the length of its kind, and the value its last two bytes carry is the
value computed over every byte before them. -/
def goodRecord (length : Nat) (bs : List Byte) : Bool :=
  bs.length == length && wordAt bs (length - 2) == crc16 (bs.take (length - 2))

/-! ## Codes of the enumerations: from 0 in the order the owning rule lists the values (R183) -/

def Modulation.code : Modulation → Nat
  | .qpsk => 0 | .qam16 => 1 | .qam32 => 2 | .qam64 => 3 | .qam128 => 4 | .qam256 => 5 | .qam512 => 6
  | .qam1024 => 7 | .qam2048 => 8 | .qam4096 => 9

def modulationOf : Nat → Option Modulation
  | 0 => some .qpsk | 1 => some .qam16 | 2 => some .qam32 | 3 => some .qam64 | 4 => some .qam128
  | 5 => some .qam256 | 6 => some .qam512 | 7 => some .qam1024 | 8 => some .qam2048
  | 9 => some .qam4096 | _ => none

def CodeRate.code : CodeRate → Nat
  | .half => 0 | .twoThirds => 1 | .threeQuarters => 2 | .fiveSixths => 3 | .nineTenths => 4

def codeRateOf : Nat → Option CodeRate
  | 0 => some .half | 1 => some .twoThirds | 2 => some .threeQuarters | 3 => some .fiveSixths
  | 4 => some .nineTenths | _ => none

def FadeKind.code : FadeKind → Nat
  | .flat => 0 | .selective => 1

def EndedBy.code : EndedBy → Nat
  | .recovered => 0 | .linkLost => 1 | .stopped => 2 | .restart => 3

def RuleName.code : RuleName → Nat
  | .starved => 0 | .urgent => 1 | .outOfSet => 2 | .downshift => 3 | .error => 4 | .upshift => 5
  | .pinned => 6 | .none => 7

def Phase.code : Phase → BitVec 2
  | .sync => 0#2 | .caps => 1#2 | .run => 2#2 | .halt => 3#2

def phaseOf (c : BitVec 2) : Phase :=
  if c = 0#2 then .sync else if c = 1#2 then .caps else if c = 2#2 then .run else .halt

def AskKind.code : AskKind → BitVec 2
  | .none => 0#2 | .ask => 1#2 | .urgent => 2#2

/-- R80: the fourth code is read as NONE. -/
def askKindOf (c : BitVec 2) : AskKind :=
  if c = 1#2 then .ask else if c = 2#2 then .urgent else .none

def AnswerKind.code : AnswerKind → BitVec 2
  | .none => 0#2 | .agree => 1#2 | .decline => 2#2

/-- R80: the fourth code is read as NONE. -/
def answerKindOf (c : BitVec 2) : AnswerKind :=
  if c = 1#2 then .agree else if c = 2#2 then .decline else .none

def PowerRequest.code : PowerRequest → BitVec 2
  | .none => 0#2 | .up => 1#2 | .down => 2#2 | .fastUp => 3#2

def powerRequestOf (c : BitVec 2) : PowerRequest :=
  if c = 0#2 then .none else if c = 1#2 then .up else if c = 2#2 then .down else .fastUp

def LaneState.code : LaneState → Nat
  | .steady => 0 | .asking => 1 | .switching => 2 | .backoff => 3

def LimitState.code : LimitState → Nat
  | .released => 0 | .limited => 1

def LimitSample.code : LimitSample → Nat
  | .asserted => 0 | .released => 1

def LinkPhase.code : LinkPhase → Nat
  | .config => 0 | .sync => 1 | .caps => 2 | .run => 3

def ResetCause.code : ResetCause → Nat
  | .powerOn => 0 | .resetLine => 1 | .restart => 2

def IntakeState.code : IntakeState → Nat
  | .idle => 0 | .search => 1 | .locked => 2 | .resync => 3

def Availability.code : Availability → Nat
  | .available => 0 | .unavailable => 1

/-- R177: the number of an event flag. -/
def EventFlag.num : EventFlag → Nat
  | .linkUp => 0 | .linkLoss => 1 | .acqTimeout => 2 | .rxSwitch => 3 | .txSwitch => 4
  | .handshakeLost => 5 | .switchMissed => 6 | .rxUnexpected => 7 | .fadeStart => 8 | .fadeEnd => 9
  | .longFade => 10 | .starved => 11 | .resync => 12 | .pilotOverdue => 13 | .txlimChange => 14
  | .tableSwapped => 15 | .swapTimeout => 16 | .hostOverrun => 17 | .availabilityChange => 18
  | .binClosed => 19 | .fadeLogDrop => 20 | .watchDropped => 21

def watchModeOf : Nat → Option WatchMode
  | 0 => some .off | 1 => some .once | 2 => some .periodic | 3 => some .onSwitch | _ => none

def WatchTrigger.code : WatchTrigger → Nat
  | .once => 0 | .periodic => 1 | .rxChange => 2 | .txChange => 3

/-- R173: the statuses of a reply. -/
inductive Status where
  | ok | accepted | unknownKind | badLength | outOfRange | order | wrongState | tableInconsistent
  | inUse | notEnabled | busy
  deriving DecidableEq, Repr

/-- R173: the code of a status. -/
def Status.code : Status → Byte
  | .ok => 0#8 | .accepted => 1#8 | .unknownKind => 2#8 | .badLength => 3#8 | .outOfRange => 4#8
  | .order => 5#8 | .wrongState => 6#8 | .tableInconsistent => 7#8 | .inUse => 8#8
  | .notEnabled => 9#8 | .busy => 10#8

/-- A profile index that a byte carries, if it lies in 0..15. -/
def profileOf (b : Byte) : Option Profile :=
  if h : b.toNat < 16 then some ⟨b.toNat, h⟩ else none

/-! ## The hop control word (R184) -/

/-- The 32-bit word of an HCW, phase in bits 31–30 down to caps_byte in bits 7–0. -/
def Hcw.encode (h : Hcw) : HcwWord :=
  h.phase.code ++ h.askKind.code ++ h.askSeq ++ BitVec.ofNat 4 h.askProfile.val ++ h.ansKind.code ++
    h.ansSeq ++ h.ansValue ++ h.powerReq.code ++ BitVec.ofBool h.fade ++ BitVec.ofBool h.capsHalf ++
    h.capsByte

/-- The fields of a received HCW (R80, R184). -/
def Hcw.decode (w : HcwWord) : Hcw :=
  { phase := phaseOf (w.extractLsb' 30 2)
    askKind := askKindOf (w.extractLsb' 28 2)
    askSeq := w.extractLsb' 25 3
    askProfile := (w.extractLsb' 21 4).toFin
    ansKind := answerKindOf (w.extractLsb' 19 2)
    ansSeq := w.extractLsb' 16 3
    ansValue := w.extractLsb' 12 4
    powerReq := powerRequestOf (w.extractLsb' 10 2)
    fade := w.getLsbD 9
    capsHalf := w.getLsbD 8
    capsByte := w.extractLsb' 0 8 }

/-! ## Modem-link records (R159, R184) -/

/-- The measurements of one branch, brought into range (R159). -/
structure Branch where
  snr      : Nat
  rsl      : Int
  stress   : Nat
  pilotSnr : Nat
  deriving DecidableEq, Repr

/-- The fields of an RX_METRICS record, brought into range (R159). -/
structure Metrics where
  frame         : FrameNo
  mainValid     : Bool
  spaceValid    : Bool
  headerValid   : Bool
  pilot         : Bool
  uncorrectable : Bool
  rxProfile     : Profile
  main          : Branch
  space         : Branch
  hcw           : Hcw
  deriving DecidableEq, Repr

/-- R159: one branch of a record, its seven bytes starting at offset `i`. -/
def branchAt (bs : List Byte) (i : Nat) : Branch :=
  { snr := clampNat 0 500 (wordAt bs i).toInt
    rsl := clampInt (-400) (-40) (wordAt bs (i + 2)).toInt
    stress := (byteAt bs (i + 4)).toNat
    pilotSnr := clampNat 0 500 (wordAt bs (i + 5)).toInt }

/-- The length of an RX_METRICS record (R150). -/
def metricsLength : Nat := 28

/-- R159, R184: the fields of an RX_METRICS record, code byte included. -/
def parseMetrics (bs : List Byte) : Metrics :=
  { frame := wordAt bs 1
    mainValid := (byteAt bs 3).getLsbD 0
    spaceValid := (byteAt bs 3).getLsbD 1
    headerValid := (byteAt bs 3).getLsbD 2
    pilot := (byteAt bs 3).getLsbD 3
    uncorrectable := (byteAt bs 3).getLsbD 4
    rxProfile := ((byteAt bs 4).extractLsb' 0 4).toFin
    main := branchAt bs 5
    space := branchAt bs 12
    hcw := Hcw.decode (doubleAt bs 19) }

/-- The length of a TX_SLOT record (R150). -/
def slotLength : Nat := 5

/-- R150, R184: a TX_SLOT record, code byte included. -/
def parseSlot (bs : List Byte) : SlotRecord :=
  { good := goodRecord slotLength bs, number := wordAt bs 1 }

/-- R184: the record of a descriptor, with its check. -/
def Descriptor.record (d : Descriptor) : List Byte :=
  withCheck ([0xE1#8] ++ le16 d.echo ++ le8 d.profile.val ++ le8 d.attenuation ++
    [BitVec.ofNat 8 ((if d.mute then 1 else 0) + (if d.pilot then 2 else 0))] ++ le32 d.hcw.encode)

/-! ## The host envelope (R172, R182) -/

/-- The sync byte (R172). -/
def syncByte : Byte := 0xB7#8

/-- A message on the line: sync, length, kind, tag, payload, check; the check covers the length byte through
the last payload byte. -/
def envelope (m : Message) : List Byte :=
  syncByte :: withCheck ([BitVec.ofNat 8 (m.payload.length + 2), m.kind, m.tag] ++ m.payload)

/-- The outcome of a byte at the receiver (R172): the bytes collected so far (absent while hunting), and the
message completed, if one is. -/
structure Received where
  collecting : Option (List Byte)
  complete   : Option Message
  deriving DecidableEq, Repr

/-- R172: one byte at the receiver. While hunting, only the sync byte starts collection; a length byte outside
2..250 or a check that differs discards the message. -/
def receiveByte (collecting : Option (List Byte)) (b : Byte) : Received :=
  match collecting with
  | none => { collecting := if b = syncByte then some [] else none, complete := none }
  | some [] =>
    { collecting := if 2 ≤ b.toNat ∧ b.toNat ≤ 250 then some [b] else none, complete := none }
  | some (len :: more) =>
    let bs := len :: more ++ [b]
    if bs.length < len.toNat + 3 then { collecting := some bs, complete := none }
    else if goodRecord (len.toNat + 3) bs then
      { collecting := none
        complete := some { kind := byteAt bs 1, tag := byteAt bs 2,
                           payload := (bs.drop 3).take (len.toNat - 2) } }
    else { collecting := none, complete := none }

/-! ## Packed items of the host messages (R183) -/

/-- R183: a history entry packed into 10 bytes, as one 80-bit little-endian number. -/
def HistoryEntry.packed (x : HistoryEntry) : BitVec 80 :=
  (0#6) ++ BitVec.ofBool x.headerValid ++ BitVec.ofBool x.inFade ++ BitVec.ofBool x.uncorrectable ++
    BitVec.ofBool x.spaceValid ++ BitVec.ofBool x.mainValid ++ BitVec.ofBool x.pilot ++
    BitVec.ofBool x.resumed ++ BitVec.ofBool x.held ++
    BitVec.ofNat 4 (x.rxProfile.elim 0 Fin.val) ++ BitVec.ofInt 9 (x.rsl + 400) ++
    BitVec.ofInt 10 x.d ++ BitVec.ofNat 9 x.p ++ BitVec.ofNat 9 x.s ++ BitVec.ofNat 9 x.e ++ x.frame

/-- The ten bytes of a packed history entry. -/
def HistoryEntry.bytes (x : HistoryEntry) : List Byte :=
  [0, 8, 16, 24, 32, 40, 48, 56, 64, 72].map (fun i => x.packed.extractLsb' i 8)

/-- R182: the seven fields of a profile row, as WRITE_PROFILE carries them. -/
def ProfileRow.bytes (r : ProfileRow) : List Byte :=
  leBool r.enabled ++ le8 r.modulation.code ++ le8 r.codeRate.code ++ leNat16 r.capacity ++
    leNat16 r.tDown ++ leNat16 r.tUp ++ le8 r.backoff

/-- R53, R183: the 30 bytes of a fade record; `endedBy` absent is 0xFF (R56). -/
def fadeBytes (f : OpenFade) (maxDepth : Nat) (kind : FadeKind) (endedBy : Option EndedBy) : List Byte :=
  leNat32 f.id ++ le16 f.start ++ leNat32 f.duration ++ leNat16 f.minS ++ leNat16 maxDepth ++
    le8 f.rOpen.val ++ le8 f.lowR.val ++ leNat16 f.downshifts ++ leNat16 f.urgents ++
    leNat32 f.stressSum ++ leNat32 f.stressCount ++ le8 kind.code ++ leOpt (endedBy.map EndedBy.code)

/-- R53: a closed fade record. -/
def FadeRecord.bytes (f : FadeRecord) : List Byte :=
  fadeBytes f.body f.maxDepth f.kind (some f.endedBy)

/-- R183: an SNR-scale value that may be absent: 2 bytes, 0xFFFF when absent. -/
def leSnr (o : Option Nat) : List Byte := leNat16 (o.getD 0xFFFF)

/-- R168, R183: the 89 bytes of a bin. -/
def Bin.bytes (b : Bin) : List Byte :=
  leNat32 b.number ++ leNat16 b.seconds ++ leBool b.truncated ++ leNat16 b.es ++ leNat16 b.ses ++
    leNat16 b.uas ++ (b.perProfile.toList.map leNat32).flatten ++ leNat16 b.downshifts ++
    leNat16 b.upshifts ++ leNat16 b.urgents ++ leNat16 b.fades ++ leSnr b.minS ++ leSnr b.maxS

/-- R177: a set of event flags as 4 bytes, bits 22..31 sent as 0. -/
def flagBytes (f : BitVec 22) : List Byte := le32 (f.setWidth 32)

/-- R177: a set of event flags received in 4 bytes at offset `i`; bits 22..31 are ignored. -/
def flagsAt (bs : List Byte) (i : Nat) : BitVec 22 := (doubleAt bs i).setWidth 22

end Sys2Proof.Machine
end

