-- ==== Sys2Proof/Machine/Flags.lean ====
section
/-! DEFINITION. The event flags, their enables, ATTN, and the output queue that EVENT notices go into (R174,
R177, R178). Every other file raises a flag through `State.raise` or `State.raiseIf` only. -/

namespace Sys2Proof.Machine

/-- R174: the free places of the output queue. -/
def HostLink.freePlaces (h : HostLink) : Nat := Config.outQueueCapacity - h.outQueue.length

/-- R174: a notice is queued only when at least two places are free, and is dropped otherwise. -/
def HostLink.notice (m : Message) (h : HostLink) : HostLink :=
  if 2 ≤ h.freePlaces then { h with outQueue := h.outQueue ++ [m] } else h

/-- R173, R174: a reply is always queued: a request is taken only when a place is free. -/
def HostLink.reply (m : Message) (h : HostLink) : HostLink := { h with outQueue := h.outQueue ++ [m] }

/-- The set of one flag (R177). -/
def EventFlag.bit (f : EventFlag) : BitVec 22 := 1#22 <<< f.num

/-- R178: the level ATTN is driven to: asserted exactly when some flag is both raised and enabled. -/
def attnLevel (raised enabled : BitVec 22) : Bool := (raised &&& enabled) != 0#22

/-- R177, R178: the raised flags and the enables take new values, and ATTN follows at once. -/
def HostLink.setFlags (raised enabled : BitVec 22) (h : HostLink) : HostLink :=
  { h with raised := raised, enabled := enabled, attn := attnLevel raised enabled }

/-- R177: the EVENT notice of a flag: its number and the whole set of raised flags, tag 0 (R182). -/
def eventNotice (f : EventFlag) (raised : BitVec 22) : Message :=
  { kind := 0x41#8, tag := 0#8, payload := le8 f.num ++ flagBytes raised }

/-- R177: a cause occurs. A flag that rises from clear while its enable is set queues one EVENT notice; a cause
that finds its flag raised does nothing. -/
def HostLink.raise (f : EventFlag) (h : HostLink) : HostLink :=
  if h.raised &&& f.bit ≠ 0#22 then h
  else
    let h' := h.setFlags (h.raised ||| f.bit) h.enabled
    if h.enabled &&& f.bit ≠ 0#22 then h'.notice (eventNotice f h'.raised) else h'

/-- R177: the cause of flag `f` occurs. -/
def State.raise (f : EventFlag) (s : State) : State := { s with host := s.host.raise f }

/-- R177: the cause of flag `f` occurs if `c` holds. -/
def State.raiseIf (c : Bool) (f : EventFlag) (s : State) : State :=
  { s with host := if c then s.host.raise f else s.host }

end Sys2Proof.Machine
end

