-- ==== Sys2Proof/Machine/Table.lean ====
section
/-! DEFINITION. Profile Table (chapter 1): profile sets, validation, the swap, the far mask, the negotiated
set; and the attenuation floor of chapter 7, which a swap reads. -/

namespace Sys2Proof.Machine

/-! ## Profile sets -/

/-- The profile indices, highest first. -/
def profilesDown : List Profile := [15, 14, 13, 12, 11, 10, 9, 8, 7, 6, 5, 4, 3, 2, 1, 0]

/-- The profile indices, lowest first. -/
def profilesUp : List Profile := [0, 1, 2, 3, 4, 5, 6, 7, 8, 9, 10, 11, 12, 13, 14, 15]

/-- Membership of a profile in a set. -/
def inSet (m : ProfileSet) (p : Profile) : Bool := m.getLsbD p.val

/-- The highest member of a set that is not greater than `c` (profile 0, when there is none). -/
def highestUpTo (m : ProfileSet) (c : Profile) : Profile :=
  (profilesDown.find? (fun j => inSet m j && decide (j ≤ c))).getD 0

/-- "The highest member of N below r" (00_scope, Sets; profile 0, when there is none). -/
def highestBelow (m : ProfileSet) (r : Profile) : Profile :=
  (profilesDown.find? (fun j => inSet m j && decide (j < r))).getD 0

/-- "The next member of N above r" (00_scope, Sets). -/
def nextAbove (m : ProfileSet) (r : Profile) : Option Profile :=
  profilesUp.find? (fun j => inSet m j && decide (r < j))

/-- R10: the set of the profiles whose rows are enabled. -/
def enabledSet (t : Table) : ProfileSet := BitVec.ofFnLE fun p : Fin 16 => (t[p]).enabled

/-! ## Rows of the active table -/

/-- A row of the active table. -/
def State.row (s : State) (p : Profile) : ProfileRow := s.table.active[p]

/-- R123: the floor, the backoff of the active profile, or the greater of it and the staged profile's. -/
def State.floor (s : State) : Nat :=
  match s.tx.staged with
  | none => (s.row s.tx.active).backoff
  | some g => max (s.row s.tx.active).backoff (s.row g.profile).backoff

/-- R123: the ceiling. -/
def State.ceiling (s : State) : Nat := s.settings.attenMax

/-- R126, R128, R132: an attenuation clamped to the floor and the ceiling as they stand. -/
def State.clampAtten (s : State) (a : Int) : Nat := clampNat s.floor s.ceiling a

/-! ## Validation (R5) -/

/-- R5: the tests, in the order of the rule. -/
inductive RowTest where
  | row0 | hysteresis | order | backoffLimit
  deriving DecidableEq, Repr

/-- R183: the code of a test. -/
def RowTest.code : RowTest → Nat
  | .row0 => 0 | .hysteresis => 1 | .order => 2 | .backoffLimit => 3

/-- R5, ORDER: a row against its nearest lower enabled row. -/
def orderFails (row lower : ProfileRow) : Bool :=
  decide (row.tDown ≤ lower.tDown) || decide (row.tUp ≤ lower.tUp) ||
    decide (row.capacity ≤ lower.capacity) || decide (row.backoff < lower.backoff)

/-- R5: the first test that an enabled row fails. -/
def rowFailure (row : ProfileRow) (lower : Option ProfileRow) (attenMax : Nat) : Option RowTest :=
  if row.tUp < row.tDown + 10 then some .hysteresis
  else if lower.elim false (orderFails row) then some .order
  else if attenMax < row.backoff then some .backoffLimit
  else none

/-- R5: rows examined from index `i` upward, with the nearest lower enabled row so far. -/
def validateFrom (attenMax : Nat) : List ProfileRow → Nat → Option ProfileRow → Option (Nat × RowTest)
  | [], _, _ => none
  | row :: rows, i, lower =>
    if row.enabled then
      match rowFailure row lower attenMax with
      | some t => some (i, t)
      | none => validateFrom attenMax rows (i + 1) (some row)
    else if i = 0 then some (0, .row0)
    else validateFrom attenMax rows (i + 1) lower

/-- R5: validation of a table against atten_max: the failing row and test, or none when the table passes. -/
def validate (t : Table) (attenMax : Nat) : Option (Nat × RowTest) :=
  validateFrom attenMax t.toList 0 none

/-! ## The negotiated set (R11, R13) -/

/-- R11: the far mask, the union of both halves. -/
def ProfileTable.farMask (t : ProfileTable) : ProfileSet := t.farHalf1 ++ t.farHalf0

/-- R13: the negotiated set that the masks and the marks give. -/
def ProfileTable.negotiate (t : ProfileTable) : ProfileSet :=
  if t.mark0 && t.mark1 then t.ownMask &&& t.farMask else 1#16

/-- R13: N is recomputed. -/
def ProfileTable.renegotiate (t : ProfileTable) : ProfileTable :=
  { t with negotiated := t.negotiate }

/-- R11: the caps byte of a good-header entry replaces its half, and sets the half's mark. Profile 0 is stored as
a member whatever the byte carries. -/
def ProfileTable.takeCaps (capsHalf : Bool) (capsByte : BitVec 8) (t : ProfileTable) : ProfileTable :=
  (if capsHalf then { t with farHalf1 := capsByte, mark1 := true }
   else { t with farHalf0 := capsByte ||| 1#8, mark0 := true }).renegotiate

/-- R12: both marks are cleared and both halves emptied. -/
def ProfileTable.clearMarks (t : ProfileTable) : ProfileTable :=
  { t with farHalf0 := 1#8, mark0 := false, farHalf1 := 0#8, mark1 := false }.renegotiate

/-- R10: the caps byte for a half of the own mask. -/
def ProfileTable.capsByte (t : ProfileTable) (half : Bool) : BitVec 8 :=
  if half then t.ownMask.extractLsb' 8 8 else t.ownMask.extractLsb' 0 8

/-! ## The swap (R6 to R9) -/

/-- R6, R8: the shadow table is copied into the active table, and the own mask and N are recomputed. -/
def ProfileTable.install (t : ProfileTable) : ProfileTable :=
  { t with active := t.shadow, ownMask := enabledSet t.shadow }.renegotiate

/-- R6, R8, R123: a swap is taken; A is raised to the floor when the new rows put the floor above it. -/
def State.installSwap (s : State) : State :=
  let s' := { s with table := s.table.install }
  { s' with power := { s'.power with a := max s'.power.a s'.floor } }

/-- R7: whether the shadow table disables the active transmit profile or r. -/
def State.shadowInUse (s : State) : Bool :=
  !(s.table.shadow[s.tx.active]).enabled || !(s.table.shadow[s.hop.r]).enabled

/-- R8: the request lane is in STEADY or BACKOFF and nothing is staged. -/
def State.quietLanes (s : State) : Bool :=
  (s.hop.lane.state == .steady || s.hop.lane.state == .backoff) && s.tx.staged.isNone

/-- R8: whether a pending swap may be taken now and passes its repeated tests. -/
def State.swapReady (s : State) : Bool :=
  s.table.pendingSwap.isSome && (s.link.state != .run || s.quietLanes) &&
    (validate s.table.shadow s.settings.attenMax).isNone &&
    (s.link.state != .run || !s.shadowInUse)

/-- R8: the swap is taken: the tables, the masks and A; the pending swap becomes absent; TABLE_SWAPPED. -/
def State.takeSwap (s : State) : State :=
  { s.installSwap with table := { s.installSwap.table with pendingSwap := none } }.raise .tableSwapped

/-- R9: the pending swap is dropped and SWAP_TIMEOUT is raised. -/
def State.dropSwap (s : State) : State :=
  { s with table := { s.table with pendingSwap := none } }.raise .swapTimeout

/-- R8: the attempt at a slot event. -/
def State.trySwap (s : State) : State := if s.swapReady then s.takeSwap else s

/-- R8, R9: the attempt at an entry event, and the entry count when the swap is not taken. -/
def State.swapAtEntry (s : State) : State :=
  match s.table.pendingSwap with
  | none => s
  | some n =>
    if s.swapReady then s.takeSwap
    else if Config.swapEntryLimit ≤ n + 1 then s.dropSwap
    else { s with table := { s.table with pendingSwap := some (n + 1) } }

end Sys2Proof.Machine
end

