-- ==== Sys2Proof/Machine/Estimator.lean ====
section
/-! DEFINITION. Channel Estimator (chapter 2): the five stages of R16 for one entry. -/

namespace Sys2Proof.Machine

/-- One entry as the Intake delivers it (R154, R160): its frame number, its resumed mark, the accepted record it
is made from (absent for a held frame of the Intake), and whether that record's header is valid. -/
structure Entry where
  frame       : FrameNo
  resumed     : Bool
  record      : Option Metrics
  headerValid : Bool
  deriving DecidableEq, Repr

/-- R17: whether an entry is held, from its record's flags and the div_mode in force. -/
def Entry.held (e : Entry) (mode : DivMode) : Bool :=
  match e.record with
  | none => true
  | some m =>
    match mode with
    | .combine | .select => !m.mainValid && !m.spaceValid
    | .main => !m.mainValid
    | .space => !m.spaceValid

/-- R160: a good-header entry: its header is valid and the Estimator classes it as non-held. The fields that the
blocks take from it are its record's. -/
def Entry.good (e : Entry) (mode : DivMode) : Option Metrics :=
  if e.headerValid && !e.held mode then e.record else none

/-! ## Correcting and combining (R18 to R21) -/

/-- R18: the corrected SNR of a branch. -/
def corrected (raw : Nat) (offset : Int) : Nat := clampNat 0 500 (raw + offset)

/-- R19: the table g(k), tenths of a dB. -/
def logAddGain (k : Nat) : Nat := [30, 25, 21, 18, 15, 12, 10, 8, 6, 5, 4, 3, 3, 2, 2, 1].getD k 0

/-- R19: logarithmic addition of two corrected values. -/
def logAdd (x y : Nat) : Nat :=
  let hi := max x y
  let d := hi - min x y
  min 500 (hi + logAddGain (d / 10))

/-- What the two branches of a non-held entry give: the combined SNR, the stress of the in-use branch and the
in-use RSL (R19, R20, R21). -/
structure Combined where
  snr    : Nat
  stress : Nat
  rsl    : Int
  deriving DecidableEq, Repr

/-- A single branch in use (R20, R21). -/
def oneBranch (b : Branch) (offset : Int) : Combined :=
  { snr := corrected b.snr offset, stress := b.stress, rsl := b.rsl }

/-- R19 to R21: combining. With both branches valid in COMBINE or SELECT the in-use branch is the one whose
corrected value is the larger, the main branch when they are equal; in COMBINE the RSL is the larger of
the two. -/
def combine (mode : DivMode) (m : Metrics) (offMain offSpace : Int) : Combined :=
  let main := oneBranch m.main offMain
  let space := oneBranch m.space offSpace
  let better := if main.snr < space.snr then space else main
  match mode with
  | .main => main
  | .space => space
  | .select =>
    if m.mainValid && m.spaceValid then better else if m.mainValid then main else space
  | .combine =>
    if m.mainValid && m.spaceValid then
      { better with snr := logAdd main.snr space.snr, rsl := max main.rsl space.rsl }
    else if m.mainValid then main else space

/-- R22: the effective SNR. -/
def effectiveSnr (c : Combined) (stressWeight : Nat) : Nat :=
  clampNat 0 500 ((c.snr : Int) - (c.stress * stressWeight / 64 : Nat))

/-- R23: one step of S16; division by the power of two rounds toward minus infinity. -/
def smoothStep (s16 : Option Nat) (e smoothDown smoothUp : Nat) : Nat :=
  match s16 with
  | none => e * 16
  | some v =>
    let diff : Int := (e * 16 : Nat) - (v : Int)
    ((v : Int) + diff / 2 ^ (if e * 16 < v then smoothDown else smoothUp)).toNat

/-- R24: the slope, from the ring as it stands before this entry is appended (so the entry eight positions older
has age 7 in it). -/
def slope (s : Nat) (resumed : Bool) (ring : List HistoryEntry) : Int :=
  match ring[7]? with
  | none => 0
  | some old => if resumed || (ring.take 7).any (·.resumed) then 0 else (s : Int) - old.s

/-- R25: the prediction. -/
def predict (s : Nat) (d : Int) (horizon : Nat) : Nat :=
  ((s : Int) + min 0 (d * horizon / 8)).toNat

/-! ## The stages -/

/-- What the blocks that act after the Estimator read of an entry (R16, R39): its history entry, the stress it
hands on (absent for a held entry) and the frame number of the entry before it in the ring. -/
structure EntryValues where
  history   : HistoryEntry
  stress    : Option Nat
  prevFrame : Option FrameNo
  deriving DecidableEq, Repr

/-- R29, R33, R45: the in_fade flag of a history entry: the fade flag as left by the entry before. At the first entry
after a fade has closed as RECOVERED the rules disagree (R33 and R45: in_fade yes; R29: the state left by the
entry before, which is clear), so there it is a free value of the state's counter `k` (assumption 29). The
calibration reads the fade flag itself (R29, R52). -/
def FadeTracker.flagShown (f : FadeTracker) (k : Nat) : Bool :=
  f.inFade || (f.justClosed && Config.freeFadeAfterClose k)

/-- R33: the fields of a history entry that come from the entry itself; the values are filled in by
`nonHeldEntry` and `heldEntry`. `inFade` is `FadeTracker.flagShown`: at the first entry after a close the
rules disagree on it (assumption 29). -/
def blankEntry (e : Entry) (mode : DivMode) (inFade : Bool) : HistoryEntry :=
  let flag (f : Metrics → Bool) : Bool := e.record.elim false f
  { frame := e.frame, e := 0, s := 0, p := 0, d := 0, rsl := -400,
    rxProfile := (e.good mode).map (·.rxProfile), held := e.held mode, resumed := e.resumed,
    pilot := flag (·.pilot), mainValid := flag (·.mainValid), spaceValid := flag (·.spaceValid),
    uncorrectable := flag (·.uncorrectable), inFade := inFade,
    headerValid := (e.good mode).isSome }

/-- R26: the history entry of a held entry: the values of the entry before it. -/
def heldEntry (blank : HistoryEntry) (ring : List HistoryEntry) : HistoryEntry :=
  match ring with
  | [] => blank
  | prev :: _ =>
    { blank with e := prev.e, s := prev.s, rsl := prev.rsl,
                 d := if blank.resumed then 0 else prev.d,
                 p := if blank.resumed then prev.s else prev.p }

/-- R22 to R25: the history entry of a non-held entry. -/
def nonHeldEntry (blank : HistoryEntry) (c : Combined) (s16 : Nat) (set : Settings)
    (ring : List HistoryEntry) : HistoryEntry :=
  let s := s16 / 16
  let d := slope s blank.resumed ring
  { blank with e := effectiveSnr c set.stressWeight, s := s, d := d,
               p := predict s d set.horizon, rsl := c.rsl }

/-- R30: one branch's offset after a pilot calibration. -/
def calibrate (valid : Bool) (b : Branch) (offset : Int) : Int :=
  if valid then
    clampInt (-50) 50 (offset + clampInt (-5) 5 ((b.pilotSnr : Int) - ((b.snr : Int) + offset)))
  else offset

/-- R32: an entry appended to the ring, the oldest removed from a full one. -/
def appendHistory (x : HistoryEntry) (ring : List HistoryEntry) : List HistoryEntry :=
  (x :: ring).take Config.historyCapacity

/-- R27: the hold count after an entry. -/
def nextHold (held : Bool) (hold : Nat) : Nat := if held then saturate 255 (hold + 1) else 0

/-- R27: the starved flag after an entry whose hold count is `hold`. -/
def nextStarved (held : Bool) (hold holdLimit : Nat) (starved : Bool) : Bool :=
  held && (starved || decide (holdLimit ≤ hold))

/-- R16: the Estimator after one entry, and the values the other blocks read. `inFade` is the fade flag as the entry
before left it, which the calibration reads (R29, R52), and `shown` the in_fade flag of the history entry. -/
def Estimator.handle (est : Estimator) (e : Entry) (inFade shown : Bool) (set : Settings) :
    Estimator × EntryValues :=
  let blank := blankEntry e set.divMode shown
  let hold := nextHold blank.held est.hold
  let starved := nextStarved blank.held hold set.holdLimit est.starved
  let prevFrame := est.ring.head?.map (·.frame)
  match e.record, blank.held with
  | some m, false =>
    let c := combine set.divMode m est.offMain est.offSpace
    let s16 := smoothStep est.s16 (effectiveSnr c set.stressWeight) set.smoothDown set.smoothUp
    let x := nonHeldEntry blank c s16 set est.ring
    let pilot := m.pilot && !inFade
    ({ offMain := if pilot then calibrate m.mainValid m.main est.offMain else est.offMain
       offSpace := if pilot then calibrate m.spaceValid m.space est.offSpace else est.offSpace
       s16 := some s16, hold := hold, starved := starved, ring := appendHistory x est.ring },
     { history := x, stress := some c.stress, prevFrame := prevFrame })
  | _, _ =>
    let x := heldEntry blank est.ring
    ({ est with hold := hold, starved := starved, ring := appendHistory x est.ring },
     { history := x, stress := none, prevFrame := prevFrame })

/-- R16, R27: the Estimator handles an entry; STARVED is raised when the starved flag goes from clear to set. It
reads the fade flag as the Fade Tracker left it after the entry before (R52); what in_fade shows at the first
entry after a RECOVERED close is free (`FadeTracker.flagShown`, assumption 29). -/
def State.estimate (s : State) (e : Entry) : State × EntryValues :=
  let r := s.est.handle e s.fade.inFade (s.fade.flagShown s.freeCount) s.settings
  ({ s with est := r.1 }.raiseIf (r.1.starved && !s.est.starved) .starved, r.2)

/-- R28, R156: entry to RESYNC sets the starved flag, and raises STARVED when it was clear. -/
def State.starve (s : State) : State :=
  { s with est := { s.est with starved := true } }.raiseIf (!s.est.starved) .starved

/-- R36: the Estimator at an entry to SYNC. -/
def Estimator.enterSync (est : Estimator) : Estimator :=
  { est with s16 := none, hold := 0, starved := false, ring := [] }

end Sys2Proof.Machine
end

