-- ==== Sys2Proof/Machine/Decision.lean ====
section
/-! DEFINITION. Decision Unit (chapter 4): bookkeeping, the rules in their order, FORCE. Handing the target to the
request lane stands in Hop.lean. -/

namespace Sys2Proof.Machine

/-- What the Decision Unit reads at an entry, each as it stands when the unit handles it (R57). -/
structure DecisionInput where
  s             : Nat
  p             : Nat
  uncorrectable : Bool
  starved       : Bool
  fade          : Bool
  r             : Profile
  negotiated    : ProfileSet
  table         : Table
  set           : Settings
  deriving DecidableEq, Repr

/-- R57: the input at an entry with the Estimator's values `v`. -/
def State.decisionInput (s : State) (v : EntryValues) : DecisionInput :=
  { s := v.history.s, p := v.history.p, uncorrectable := v.history.uncorrectable,
    starved := s.est.starved, fade := s.fade.inFade, r := s.hop.r,
    negotiated := s.table.negotiated, table := s.table.active, set := s.settings }

/-- The leaving threshold of a profile. -/
def DecisionInput.tDown (i : DecisionInput) (p : Profile) : Nat := (i.table[p]).tDown

/-- The entering threshold of a profile. -/
def DecisionInput.tUp (i : DecisionInput) (p : Profile) : Nat := (i.table[p]).tUp

/-- R61: the error window with an entry appended; it holds no more than 8. -/
def appendWindow (w : List Bool) (u : Bool) : List Bool :=
  (if 8 ≤ w.length then w.drop 1 else w) ++ [u]

/-- R61: the window's count of uncorrectable entries. -/
def uncorrectableCount (w : List Bool) : Nat := w.count true

/-- R60, R61, R62: the bookkeeping of an entry: holdoff, error window, down dwell. -/
def DecisionUnit.bookkeep (u : DecisionUnit) (i : DecisionInput) : DecisionUnit :=
  { u with
    holdoff := u.holdoff - 1
    errorWindow := appendWindow u.errorWindow i.uncorrectable
    downDwell := if i.p < i.tDown i.r then saturate 15 (u.downDwell + 1) else 0 }

/-- R63: the downshift target: the highest member j of N with j below r and t_down(j) below P, or profile 0. -/
def DecisionInput.downshiftTarget (i : DecisionInput) : Profile :=
  (profilesDown.find? fun j =>
    inSet i.negotiated j && decide (j < i.r) && decide (i.tDown j < i.p)).getD 0

/-- R65: rule URGENT applies: the comparison point is 0 or more and P is less than it. -/
def DecisionInput.urgentApplies (i : DecisionInput) : Bool :=
  decide (i.set.urgentMargin ≤ i.tDown i.r) && decide (i.p < i.tDown i.r - i.set.urgentMargin)

/-- R73: under CEILING c a target above c is replaced by the highest member of N not greater than c. -/
def boundTarget (force : ForceMode) (n : ProfileSet) (target : Profile) : Profile :=
  match force with
  | .ceiling c => if c < target then highestUpTo n c else target
  | .auto | .pinned _ => target

/-- R66: rule OUT_OF_SET, in AUTO and CEILING: its target when it applies. -/
def DecisionInput.outOfSet (i : DecisionInput) (force : ForceMode) : Option Profile :=
  match force with
  | .ceiling c =>
    if c < i.r then some (highestUpTo i.negotiated c)
    else if inSet i.negotiated i.r then none else some (highestBelow i.negotiated i.r)
  | .auto => if inSet i.negotiated i.r then none else some (highestBelow i.negotiated i.r)
  | .pinned _ => none

/-- R74: the target of PINNED p. -/
def pinnedTarget (n : ProfileSet) (p : Profile) : Profile :=
  if inSet n p then p else highestUpTo n p

/-- R63: rules 1 to 5, in order: the first that applies, with its target and urgency. `u` has its bookkeeping
done. -/
def DecisionUnit.firstRules (u : DecisionUnit) (i : DecisionInput) : Option DecisionResult :=
  if i.starved then some { rule := .starved, target := 0, urgent := true }
  else if i.urgentApplies then
    some { rule := .urgent, target := boundTarget u.force i.negotiated i.downshiftTarget,
           urgent := true }
  else match u.force with
    | .pinned p => some { rule := .pinned, target := pinnedTarget i.negotiated p, urgent := false }
    | .auto | .ceiling _ =>
      match i.outOfSet u.force with
      | some t => some { rule := .outOfSet, target := t, urgent := false }
      | none =>
        if i.set.downDwell ≤ u.downDwell then
          some { rule := .downshift, target := i.downshiftTarget, urgent := false }
        else if i.set.errorOverride ∧ 2 ≤ uncorrectableCount u.errorWindow ∧ 0 < i.r then
          some { rule := .error, target := highestBelow i.negotiated i.r, urgent := false }
        else none

/-- R69: the up candidate: the next member of N above r, under CEILING c not greater than c. -/
def DecisionInput.upCandidate (i : DecisionInput) (force : ForceMode) : Option Profile :=
  match nextAbove i.negotiated i.r, force with
  | some j, .ceiling c => if j ≤ c then some j else none
  | o, _ => o

/-- R69: the upshift condition for the candidate `cand`. `u` has its bookkeeping done. -/
def DecisionUnit.upshiftCondition (u : DecisionUnit) (i : DecisionInput) (cand : Option Profile) :
    Bool :=
  cand.elim false (fun j => decide (i.tUp j ≤ i.s)) && u.holdoff == 0 && !i.fade && !i.starved &&
    uncorrectableCount u.errorWindow == 0 && u.downDwell == 0

/-- R69: the up candidate and the up dwell when rules 1 to 5 do not apply. -/
def DecisionUnit.updateUp (u : DecisionUnit) (i : DecisionInput) : DecisionUnit :=
  let cand := i.upCandidate u.force
  let dwell := if cand = u.upCandidate then u.upDwell else 0
  { u with upCandidate := cand,
           upDwell := if u.upshiftCondition i cand then saturate 4095 (dwell + 1) else 0 }

/-- R70, R71: the result when rules 1 to 5 do not apply. `u` is after `updateUp`. -/
def DecisionUnit.lastRules (u : DecisionUnit) (i : DecisionInput) : DecisionResult :=
  match u.upCandidate with
  | some j =>
    if i.set.upDwell ≤ u.upDwell then { rule := .upshift, target := j, urgent := false }
    else { rule := .none, target := i.r, urgent := false }
  | none => { rule := .none, target := i.r, urgent := false }

/-- R60 to R71: the Decision Unit after one entry. -/
def DecisionUnit.handle (u : DecisionUnit) (i : DecisionInput) : DecisionUnit :=
  let b := u.bookkeep i
  match b.firstRules i with
  | some res => { b with upCandidate := none, upDwell := 0, last := some res }
  | none =>
    let v := b.updateUp i
    { v with last := some (v.lastRules i) }

/-- R59: a change of r from `old` to `new` at an entry in RUN. -/
def DecisionUnit.followR (old new : Profile) (upHoldoff : Nat) (u : DecisionUnit) : DecisionUnit :=
  { u with downDwell := 0, upDwell := 0, upCandidate := none, errorWindow := [],
           holdoff := if new < old then upHoldoff else u.holdoff }

/-- R72: a FORCE taken. -/
def DecisionUnit.setForce (m : ForceMode) (u : DecisionUnit) : DecisionUnit :=
  { u with force := m, upDwell := 0, upCandidate := none }

/-- R78: link loss and LINK_STOP from RUN; the force mode is kept. -/
def DecisionUnit.linkEvent (u : DecisionUnit) : DecisionUnit :=
  { DecisionUnit.initial with force := u.force }

end Sys2Proof.Machine
end

