-- ==== Sys2Proof/Machine/Monitor.lean ====
section
/-! DEFINITION. Performance Monitor (chapter 10): the second in progress, availability, bins. -/

namespace Sys2Proof.Machine

/-- R164: whether the intake is not LOCKED or the link state is not RUN. -/
def State.isDegraded (s : State) : Bool := s.intake.state != .locked || s.link.state != .run

/-- R164: the degraded mark is set at any moment at which either condition holds. Called wherever the intake or
the link state changes. -/
def State.markDegraded (s : State) : State :=
  { s with monitor := { s.monitor with degraded := s.monitor.degraded || s.isDegraded } }

/-- R165: the class of a second, from its counts and mark and the ses_percent in force. -/
def classifySecond (m : Monitor) (sesPercent : Nat) : SecondClass :=
  if m.degraded ∨ m.t = 0 ∨ sesPercent * m.t ≤ (m.u + m.h) * 100 then .ses
  else if 1 ≤ m.u + m.h then .es
  else .ok

/-- R168: a second added to a bin's committed counts, as UAS or with its own class (R165: an SES second counts
in es and in ses). -/
def Bin.commit (cls : SecondClass) (asUas : Bool) (b : Bin) : Bin :=
  { b with
    seconds := b.seconds + 1
    uas := b.uas + (if asUas then 1 else 0)
    es := b.es + (if !asUas && cls != .ok then 1 else 0)
    ses := b.ses + (if !asUas && cls == .ses then 1 else 0) }

/-- R168: a bin is appended to the newest end of the closed ring; the oldest of a full ring is discarded
first. -/
def appendClosed (ring : List Bin) (b : Bin) : List Bin :=
  (if Config.closedRingCapacity ≤ ring.length then ring.drop 1 else ring) ++ [b]

/-- The monitor after one commitment, and whether it closed a bin. -/
structure Committed where
  monitor : Monitor
  closed  : Bool
  deriving DecidableEq, Repr

/-- R168: one second is committed to its bin, and the bin closes at its 900th second. -/
def Monitor.commit (m : Monitor) (p : PendingSecond) (asUas : Bool) : Committed :=
  match m.earlier with
  | some b =>
    if b.number = p.bin then
      let b' := b.commit p.cls asUas
      if b'.seconds = Config.binSeconds then
        { monitor := { m with earlier := none, closed := appendClosed m.closed b' }, closed := true }
      else { monitor := { m with earlier := some b' }, closed := false }
    else { monitor := { m with current := m.current.commit p.cls asUas }, closed := false }
  | none => { monitor := { m with current := m.current.commit p.cls asUas }, closed := false }

/-- R168: seconds committed oldest first; the count of the bins that closed on the way. -/
def Monitor.commitAll (m : Monitor) : List PendingSecond → Bool → Monitor × Nat
  | [], _ => (m, 0)
  | p :: ps, asUas =>
    let c := m.commit p asUas
    let rest := c.monitor.commitAll ps asUas
    (rest.1, rest.2 + (if c.closed then 1 else 0))

/-- The outcome of a classified second at the availability state (R166, R167). -/
structure Accounted where
  monitor    : Monitor
  binsClosed : Nat
  changed    : Bool
  deriving DecidableEq, Repr

/-- R166, R167: a classified second is committed, kept in the pending window, or completes or breaks a run.
In AVAILABLE a run is of SES seconds and is committed as UAS when complete; in UNAVAILABLE the roles are
reversed. -/
def Monitor.account (m : Monitor) (p : PendingSecond) (unavailRun : Nat) : Accounted :=
  let unavail := m.availability == .unavailable
  let extends' := (p.cls == .ses) != unavail
  if extends' then
    let window := m.window ++ [p]
    if m.window ≠ [] ∧ unavailRun ≤ window.length then
      let r := { m with window := [] }.commitAll window (!unavail)
      { monitor := { r.1 with availability := if unavail then .available else .unavailable },
        binsClosed := r.2, changed := true }
    else { monitor := { m with window := window }, binsClosed := 0, changed := false }
  else
    let r := { m with window := [] }.commitAll (m.window ++ [p]) unavail
    { monitor := r.1, binsClosed := r.2, changed := false }

/-- R168: the bin number after `n`, modulo 2^32. -/
def nextBinNumber (n : Nat) : Nat := (n + 1) % 4294967296

/-- Section 10.3: as the second after the 900th begins the next bin opens, and the bin before it stays open
until its last second is committed. -/
def Monitor.roll (m : Monitor) : Monitor :=
  if m.secondIndex + 1 = Config.binSeconds then
    { m with earlier := some m.current, current := Bin.fresh (nextBinNumber m.current.number),
             secondIndex := 0 }
  else { m with secondIndex := m.secondIndex + 1 }

/-- R164: a second begins: the counts and the mark are cleared, and the mark is set at once when either
condition holds. -/
def Monitor.beginSecond (degraded : Bool) (m : Monitor) : Monitor :=
  { m with t := 0, h := 0, u := 0, degraded := degraded, millis := 0 }

/-- R165 to R168: a second of the reference clock ends. Bins close as their seconds are committed, before the
availability state changes (R166). -/
def State.endSecond (s : State) : State :=
  let p : PendingSecond :=
    { cls := classifySecond s.monitor s.settings.sesPercent, bin := s.monitor.current.number }
  let a := s.monitor.roll.account p s.settings.unavailRun
  { s with monitor := a.monitor.beginSecond s.isDegraded }
    |>.raiseIf (decide (0 < a.binsClosed)) .binClosed
    |>.raiseIf a.changed .availabilityChange

/-- R168: a change of r to a lower profile, or to a higher one, counted in the current bin; `urgentDone`, when
it completes an ask whose pending urgency was URGENT. -/
def Bin.countSwitch (old new : Profile) (urgentDone : Bool) (b : Bin) : Bin :=
  { b with
    downshifts := saturate 65535 (b.downshifts + (if new < old then 1 else 0))
    upshifts := saturate 65535 (b.upshifts + (if old < new then 1 else 0))
    urgents := saturate 65535 (b.urgents + (if urgentDone then 1 else 0)) }

/-- R168: a fade that opens, counted in the current bin. -/
def Bin.countFade (b : Bin) : Bin := { b with fades := saturate 65535 (b.fades + 1) }

/-- R168: an entry in RUN, counted under r, with its S. -/
def Bin.countEntry (r : Profile) (sValue : Nat) (b : Bin) : Bin :=
  { b with
    perProfile := b.perProfile.set r (saturate 4294967295 (b.perProfile[r] + 1))
    minS := some (b.minS.elim sValue (min sValue))
    maxS := some (b.maxS.elim sValue (max sValue)) }

/-- R171: the open bins close as truncated, in order of bin number, and no flag is raised for it. A bin whose
900th second is among those just committed has closed before (assumption 15). -/
def Monitor.closeOpenBins (m : Monitor) : Monitor :=
  let ring := match m.earlier with
    | some b => appendClosed m.closed { b with truncated := true }
    | none => m.closed
  { m with earlier := none, closed := appendClosed ring { m.current with truncated := true } }

/-- R171: assertion of the RESET line: the second in progress is discarded, the pending window is committed with
its own classes, the open bins are closed into the ring; what is left is the monitor that starts at the
release, with the next bin number. -/
def Monitor.resetLine (m : Monitor) : Monitor :=
  let committed := ({ m with window := [] }.commitAll m.window false).1
  Monitor.start (nextBinNumber m.current.number) committed.closeOpenBins.closed

end Sys2Proof.Machine
end

