-- ==== Sys2Proof/Machine/Fade.lean ====
section
/-! DEFINITION. Fade Tracker (chapter 3): runs, the open record, closing, the log. -/

namespace Sys2Proof.Machine

/-- R43: where a duration stops. -/
def durationLimit : Nat := 4294967295

/-- R43: where the stress count stops. -/
def stressCountLimit : Nat := 16777215

/-- R53: the largest stress sum. -/
def stressSumLimit : Nat := 4278190080

/-- R43: a duration with `n` frames added. -/
def addDuration (d n : Nat) : Nat := saturate durationLimit (d + n)

/-- What an entry is to the Fade Tracker (R39). -/
structure FadeInput where
  frame   : FrameNo
  resumed : Bool
  s       : Nat
  stress  : Option Nat
  /-- R43: the frame-number gap before the entry, modulo 65536; 0 when no entry stands before it -/
  gap     : Nat
  deriving DecidableEq, Repr

/-- R39, R43: the Fade Tracker's input from the Estimator's values. -/
def EntryValues.fadeInput (v : EntryValues) : FadeInput :=
  { frame := v.history.frame, resumed := v.history.resumed, s := v.history.s, stress := v.stress,
    gap := match v.prevFrame with
      | none => 0
      | some p => (v.history.frame - p - 1#16).toNat }

/-- R43: an entry's duration contribution. -/
def FadeInput.contribution (x : FadeInput) (firstOfEntryRun : Bool) : Nat :=
  if firstOfEntryRun then 1 else if x.resumed then 1 + x.gap else 1

/-- R43: a stress sum and count with a non-held entry's stress added; both stop once the count has reached its
limit. -/
def addStress (sum count : Nat) (stress : Option Nat) : Nat × Nat :=
  match stress with
  | none => (sum, count)
  | some x => if count < stressCountLimit then (sum + x, count + 1) else (sum, count)

/-- R43: an entry added to run or exit accumulators. -/
def RunAccumulators.add (a : RunAccumulators) (x : FadeInput) (firstOfEntryRun : Bool) :
    RunAccumulators :=
  let st := addStress a.stressSum a.stressCount x.stress
  { duration := addDuration a.duration (x.contribution firstOfEntryRun), lowS := min a.lowS x.s,
    stressSum := st.1, stressCount := st.2 }

/-- R43: an entry added to the open record. -/
def OpenFade.add (f : OpenFade) (x : FadeInput) : OpenFade :=
  let st := addStress f.stressSum f.stressCount x.stress
  { f with duration := addDuration f.duration (x.contribution false), minS := min f.minS x.s,
           stressSum := st.1, stressCount := st.2 }

/-- R43, R44: the stress sum when accumulators are folded in. Where the count passes its limit part of the way
through the fold, the manual does not say which entries' stress counts: a free value between nothing and
all of it (assumption 3). -/
def foldStress (sum count exitSum exitCount : Nat) : Nat :=
  if count + exitCount ≤ stressCountLimit then sum + exitSum
  else if stressCountLimit ≤ count then sum
  else min stressSumLimit (max sum (min (sum + exitSum) (Config.freeStressFold sum exitSum)))

/-- R44, R50: the exit accumulators are folded into the open record. -/
def OpenFade.foldIn (f : OpenFade) (a : RunAccumulators) : OpenFade :=
  { f with duration := addDuration f.duration a.duration, minS := min f.minS a.lowS,
           stressSum := foldStress f.stressSum f.stressCount a.stressSum a.stressCount,
           stressCount := saturate stressCountLimit (f.stressCount + a.stressCount) }

/-- R40: the depth of an entry. -/
def depth (clearSky s : Nat) : Nat := clearSky - s

/-- R49: the kind of a fade. -/
def fadeKind (sum count stressSelective : Nat) : FadeKind :=
  if stressSelective ≤ sum / count then .selective else .flat

/-- R49: the record as it closes, with the settings as they stand. -/
def OpenFade.close (f : OpenFade) (set : Settings) (why : EndedBy) : FadeRecord :=
  { body := f, maxDepth := depth set.clearSky f.minS,
    kind := fadeKind f.stressSum f.stressCount set.stressSelective, endedBy := why }

/-- R53: the log with a record appended at its newest end, the oldest discarded from a full one. -/
def appendLog (log : List FadeRecord) (r : FadeRecord) : List FadeRecord :=
  (if Config.fadeLogCapacity ≤ log.length then log.drop 1 else log) ++ [r]

/-- R53: an append discards a record. -/
def logFull (log : List FadeRecord) : Bool := decide (Config.fadeLogCapacity ≤ log.length)

/-- Both runs empty (R41, R44, R50). -/
def FadeTracker.emptyRuns (f : FadeTracker) : FadeTracker :=
  { f with entryLen := 0, entryFirst := 0#16, entryAcc := .empty, exitLen := 0, exitAcc := .empty }

/-- R42: the id of the next fade: the counter plus one, and 1 after 4294967295. -/
def nextFadeId (counter : Nat) : Nat := if 4294967295 ≤ counter then 1 else counter + 1

/-- R42: the record of a fade that opens from the entry run of `f`, with r as the tracker reads it. -/
def FadeTracker.openRecord (f : FadeTracker) (r : Profile) : OpenFade :=
  { id := nextFadeId f.idCounter, start := f.entryFirst, duration := f.entryAcc.duration,
    minS := f.entryAcc.lowS, rOpen := r, lowR := r, downshifts := 0, urgents := 0,
    stressSum := f.entryAcc.stressSum, stressCount := f.entryAcc.stressCount }

/-- R42: the tracker as a fade opens. At the wrap of the counter the log is emptied. -/
def FadeTracker.openFadeNow (f : FadeTracker) (r : Profile) : FadeTracker :=
  { f.emptyRuns with
    openFade := some (f.openRecord r), longMark := false, idCounter := nextFadeId f.idCounter,
    log := if 4294967295 ≤ f.idCounter then [] else f.log }

/-- R41: the entry run extended by an entry. -/
def FadeTracker.extendEntryRun (f : FadeTracker) (x : FadeInput) : FadeTracker :=
  let first := f.entryLen == 0
  { f with
    entryLen := f.entryLen + 1
    entryFirst := if first then x.frame else f.entryFirst
    entryAcc := (if first then RunAccumulators.empty else f.entryAcc).add x first }

/-- R46: LONG_FADE is due: the long mark is clear and the open record's duration is at least fade_limit. -/
def FadeTracker.longDue (f : FadeTracker) (fadeLimit : Nat) : Bool :=
  !f.longMark && f.openFade.elim false (fun o => decide (fadeLimit ≤ o.duration))

/-- R46: LONG_FADE is raised, and the long mark set, when it is due. -/
def State.testLongFade (s : State) : State :=
  { s with fade := { s.fade with
      longMark := s.fade.longMark || s.fade.longDue s.settings.fadeLimit } }
    |>.raiseIf (s.fade.longDue s.settings.fadeLimit) .longFade

/-- R42: a fade opens: the tracker, the current bin's count, FADE_LOG_DROP when the wrap of the counter empties a
log that held a record, FADE_START, and the test of R46. -/
def State.openFade (s : State) : State :=
  { s with
    fade := s.fade.openFadeNow s.hop.r
    monitor := { s.monitor with current := s.monitor.current.countFade } }
    |>.raiseIf (decide (4294967295 ≤ s.fade.idCounter) && !s.fade.log.isEmpty) .fadeLogDrop
    |>.raise .fadeStart
    |>.testLongFade

/-- R41: an entry in CLEAR. -/
def State.fadeClearEntry (s : State) (x : FadeInput) : State :=
  if s.settings.fadeEnter ≤ depth s.settings.clearSky x.s then
    let s' := { s with fade := s.fade.extendEntryRun x }
    if s.settings.fadePersist ≤ s'.fade.entryLen then s'.openFade else s'
  else { s with fade := { s.fade with entryLen := 0, entryFirst := 0#16, entryAcc := .empty } }

/-- R45, R50: the tracker with the record `o` closed into the log. -/
def FadeTracker.closeWith (f : FadeTracker) (o : OpenFade) (set : Settings) (why : EndedBy) :
    FadeTracker :=
  { f.emptyRuns with openFade := none, log := appendLog f.log (o.close set why) }

/-- R45: the fade closes as RECOVERED; the exit accumulators are discarded. The next entry's in_fade is left open
(assumption 29), so the close is marked. -/
def State.recoverFade (s : State) (o : OpenFade) : State :=
  { s with fade := { s.fade.closeWith o s.settings .recovered with justClosed := true } }
    |>.raiseIf (logFull s.fade.log) .fadeLogDrop
    |>.raise .fadeEnd

/-- R44, R46: an entry in IN_FADE, with the open record `o`. The test of R46 is made at every such entry, the one that
closes the fade as RECOVERED among them, before the close (assumptions 11, 24). -/
def State.fadeOpenEntry (s : State) (o : OpenFade) (x : FadeInput) : State :=
  if depth s.settings.clearSky x.s ≤ s.settings.fadeExit then
    let s' := { s with fade := { s.fade with
      exitLen := s.fade.exitLen + 1
      exitAcc := (if s.fade.exitLen = 0 then RunAccumulators.empty else s.fade.exitAcc).add x false } }
    if s.settings.fadePersist ≤ s'.fade.exitLen then s'.testLongFade.recoverFade o else s'.testLongFade
  else
    let o' := if s.fade.exitLen = 0 then o else o.foldIn s.fade.exitAcc
    { s with fade := { s.fade with exitLen := 0, exitAcc := .empty, openFade := some (o'.add x) } }.testLongFade

/-- The mark of a close at the entry before is taken off, as an entry is handled (assumption 29). -/
def State.passClose (s : State) : State := { s with fade := { s.fade with justClosed := false } }

/-- R39: the Fade Tracker handles an entry; it acts in RUN only. -/
def State.trackFade (s : State) (v : EntryValues) : State :=
  if s.link.state = .run then
    match s.fade.openFade with
    | none => s.passClose.fadeClearEntry v.fadeInput
    | some o => s.passClose.fadeOpenEntry o v.fadeInput
  else s

/-- R50: a link event closes an open fade, folding in an exit run in progress, and empties both runs. After it no
entry is the first after a RECOVERED close (assumption 29). -/
def FadeTracker.linkEvent (f : FadeTracker) (set : Settings) (why : EndedBy) : FadeTracker :=
  match f.openFade with
  | none => { f.emptyRuns with justClosed := false }
  | some o =>
    { f.closeWith (if f.exitLen = 0 then o else o.foldIn f.exitAcc) set why with
      longMark := false, justClosed := false }

/-- R50: link loss or LINK_STOP from RUN, with the events of the close. -/
def State.fadeLinkEvent (s : State) (why : EndedBy) : State :=
  { s with fade := s.fade.linkEvent s.settings why }
    |>.raiseIf (s.fade.inFade && logFull s.fade.log) .fadeLogDrop
    |>.raiseIf s.fade.inFade .fadeEnd

/-- R47: a change of r while a fade is open. -/
def FadeTracker.followR (old new : Profile) (f : FadeTracker) : FadeTracker :=
  { f with openFade := f.openFade.map fun o =>
      if new < old then
        { o with downshifts := saturate 65535 (o.downshifts + 1), lowR := min o.lowR new }
      else o }

/-- R48: the request lane takes up a new pending target with urgency URGENT while the fade is open. -/
def FadeTracker.countUrgent (f : FadeTracker) : FadeTracker :=
  { f with openFade := f.openFade.map fun o =>
      { o with urgents := saturate 65535 (o.urgents + 1) } }

end Sys2Proof.Machine
end

