-- ==== Sys2Proof/Machine/Hop.lean ====
section
/-! DEFINITION. Hop Signalling Unit (chapter 5): the far view, the receive profile, the request lane and the
answer lane; and the watch triggers, which a change of r sets off. -/

namespace Sys2Proof.Machine

/-! ## Watch triggers (R180) -/

/-- R180: a report is triggered; it is assembled later (assumption 30). -/
def WatchState.trigger (t : WatchTrigger) (w : WatchState) : WatchState :=
  { w with triggered := w.triggered ++ [t] }

/-- R180: a change of r or a TX_SWITCH, which triggers a report in mode ON_SWITCH. -/
def State.watchSwitch (t : WatchTrigger) (s : State) : State :=
  { s with host := { s.host with
      watch := if s.host.watch.mode = .onSwitch then s.host.watch.trigger t else s.host.watch } }

/-- R180: an entry delivered, in modes ONCE and PERIODIC. -/
def WatchState.entry (w : WatchState) : WatchState :=
  match w.mode with
  | .once => { w.trigger .once with mode := .off }
  | .periodic =>
    if w.period ≤ w.counter + 1 then { w.trigger .periodic with counter := 0 }
    else { w with counter := w.counter + 1 }
  | .off | .onSwitch => w

/-! ## The far view (R83) -/

/-- R83: the far view that an HCW gives. -/
def FarView.ofHcw (h : Hcw) : FarView :=
  { phase := h.phase, fade := h.fade, askKind := h.askKind, askSeq := h.askSeq,
    askProfile := h.askProfile, ansKind := h.ansKind, ansSeq := h.ansSeq, ansValue := h.ansValue,
    powerReq := h.powerReq }

/-! ## The request lane -/

/-- R89: a new sequence number: the current number plus 1, or plus 2 when the far view shows that one as the
number of its last answer. -/
def newSeq (cur shown : Seq) : Seq := if cur + 1#3 = shown then cur + 2#3 else cur + 1#3

/-- R87: the state without an ask: no pending ask, timers stopped, timeout count 0. -/
def RequestLane.idle (st : LaneState) (l : RequestLane) : RequestLane :=
  { l with state := st, pending := none, answerTimer := 0, deadline := 0, backoffTimer := 0,
           timeouts := 0, fresh := false }

/-- R91, R92: BACKOFF, its timer loaded. -/
def RequestLane.backOff (timer : Nat) (l : RequestLane) : RequestLane :=
  { l.idle .backoff with backoffTimer := timer, fresh := true }

/-- R90, R94, R96: an ask under a new sequence number. -/
def RequestLane.ask (a : PendingAsk) (shown : Seq) (askTimeout : Nat) (l : RequestLane) :
    RequestLane :=
  { l.idle .asking with seq := newSeq l.seq shown, pending := some a, answerTimer := askTimeout,
                        fresh := true }

/-- R94: whether a target (other than r) replaces the pending ask `a` in ASKING. -/
def replaces (a target : PendingAsk) (r : Profile) : Bool :=
  if target.profile = a.profile then target.urgent && !a.urgent
  else target.urgent || (decide (target.profile < r) && decide (r < a.profile))

/-- R95: in SWITCHING an URGENT target is also ignored when the pending ask is a downshift to a profile at or
below it. -/
def replacesSwitching (a target : PendingAsk) (r : Profile) : Bool :=
  replaces a target r &&
    !(target.urgent && decide (a.profile < r) && decide (a.profile ≤ target.profile))

/-- R90, R94, R95, R96: whether the lane takes up a target. A target equal to r is ignored in every state. -/
def RequestLane.takes (l : RequestLane) (target : PendingAsk) (r : Profile) : Bool :=
  target.profile != r &&
    match l.state, l.pending with
    | .steady, _ => true
    | .asking, some a => replaces a target r
    | .switching, some a => replacesSwitching a target r
    | .asking, none | .switching, none => true
    | .backoff, _ => target.urgent

/-- R75, R48: the request lane is handed a target. Taking up an URGENT one counts in an open fade. -/
def State.handTarget (s : State) (target : PendingAsk) : State :=
  if s.hop.lane.takes target s.hop.r then
    { s with
      hop := { s.hop with lane := s.hop.lane.ask target s.hop.far.ansSeq s.settings.askTimeout }
      fade := if target.urgent then s.fade.countUrgent else s.fade }
  else s

/-- R57, R75: the Decision Unit handles an entry in RUN, and hands on a target that differs from r. DESIGN CHOICE: the
lane takes the target within this action, so r cannot change between the judging and the taking, which R90
leaves open (assumption 36). -/
def State.runDecision (s : State) (v : EntryValues) : State :=
  if s.link.state = .run then
    let u := s.decision.handle (s.decisionInput v)
    let s' := { s with decision := u }
    match u.last with
    | some res =>
      if res.target = s.hop.r then s'
      else s'.handTarget { profile := res.target, urgent := res.urgent }
    | none => s'
  else s

/-- R91: the last answer of the far view matches the outstanding ask. -/
def HopSignalling.matched (h : HopSignalling) : Bool :=
  (h.lane.state == .asking || h.lane.state == .switching) && h.far.ansKind != .none &&
    h.far.ansSeq == h.lane.seq

/-- R91: the timer a DECLINE loads. PILOT_DUE is reason 5 (R81). -/
def declineBackoff (reason : BitVec 4) (urgent : Bool) (askBackoff : Nat) : Nat :=
  if reason = 5#4 then 8 else if urgent then 4 else askBackoff

/-- R91: step 3, the request lane examines the last answer. -/
def HopSignalling.examineAnswer (h : HopSignalling) (set : Settings) : HopSignalling :=
  if h.matched then
    match h.far.ansKind, h.lane.state with
    | .agree, .asking =>
      { h with lane := { h.lane with
          state := .switching, answerTimer := 0, timeouts := 0,
          deadline := h.far.ansValue.toNat + set.switchGuard, fresh := true } }
    | .decline, _ =>
      let urgent := h.lane.pending.elim false (·.urgent)
      { h with lane := h.lane.backOff (declineBackoff h.far.ansValue urgent set.askBackoff) }
    | _, _ => h
  else h

/-- R92: the answer timer expires in ASKING: the ask is renewed under a new number, or given up at the third
expiry. -/
def State.expireAnswerTimer (s : State) : State :=
  let l := s.hop.lane
  if l.timeouts + 1 < 3 then
    { s with hop := { s.hop with lane := { l with
        timeouts := l.timeouts + 1, seq := newSeq l.seq s.hop.far.ansSeq,
        answerTimer := s.settings.askTimeout, fresh := true } } }
  else
    { s with hop := { s.hop with lane := l.backOff s.settings.askBackoff } }.raise .handshakeLost

/-- R93: the deadline expires in SWITCHING. -/
def State.missSwitch (s : State) : State :=
  { s with hop := { s.hop with lane := s.hop.lane.idle .steady } }.raise .switchMissed

/-- R96: the backoff timer expires. -/
def State.endBackoff (s : State) : State :=
  { s with hop := { s.hop with lane := s.hop.lane.idle .steady } }

/-- R88 step 4: the running timer falls by one, unless it was loaded at this entry, and expires at 0. -/
def State.advanceLaneTimer (s : State) : State :=
  let l := s.hop.lane
  if l.fresh then s
  else match l.state with
    | .steady => s
    | .asking =>
      if l.answerTimer ≤ 1 then s.expireAnswerTimer
      else { s with hop := { s.hop with lane := { l with answerTimer := l.answerTimer - 1 } } }
    | .switching =>
      if l.deadline ≤ 1 then s.missSwitch
      else { s with hop := { s.hop with lane := { l with deadline := l.deadline - 1 } } }
    | .backoff =>
      if l.backoffTimer ≤ 1 then s.endBackoff
      else { s with hop := { s.hop with lane := { l with backoffTimer := l.backoffTimer - 1 } } }

/-! ## The receive profile (R85, R86) -/

/-- R93: a change of r to `new` completes the lane's ask. -/
def RequestLane.completes (l : RequestLane) (new : Profile) : Bool :=
  (l.state == .asking || l.state == .switching) &&
    l.pending.elim false (fun a => decide (a.profile = new))

/-- R85, R86, R93: r changes to `new`: RX_SWITCH, RX_UNEXPECTED when the change is not the lane's pending ask,
the completion of the ask, and what the change does to the blocks that follow r (R47, R59, R168, R180). -/
def State.changeR (s : State) (new : Profile) : State :=
  let old := s.hop.r
  let done := s.hop.lane.completes new
  let urgentDone := done && s.hop.lane.pending.elim false (·.urgent)
  { s with
    hop := { s.hop with r := new, lane := if done then s.hop.lane.idle .steady else s.hop.lane }
    decision := s.decision.followR old new s.settings.upHoldoff
    fade := s.fade.followR old new
    monitor := { s.monitor with current := s.monitor.current.countSwitch old new urgentDone } }
    |>.raise .rxSwitch
    |>.raiseIf (!done) .rxUnexpected
    |>.watchSwitch .rxChange

/-- R85: step 2, r follows a good header. -/
def State.followHeader (s : State) (seen : Profile) : State :=
  if seen = s.hop.r then s else s.changeR seen

/-! ## The answer lane (R98 to R102) -/

/-- R81: the reasons of a DECLINE. -/
def reasonHalted : BitVec 4 := 1#4
def reasonNotEnabled : BitVec 4 := 2#4
def reasonBusy : BitVec 4 := 3#4
def reasonLimited : BitVec 4 := 4#4
def reasonPilotDue : BitVec 4 := 5#4
def reasonPowerLow : BitVec 4 := 6#4

/-- The answer to a new ask, and what it makes of the staged part. -/
structure AskOutcome where
  kind   : AnswerKind
  value  : BitVec 4
  staged : Option StagedSwitch
  deriving DecidableEq, Repr

/-- A DECLINE, which leaves the staged part as it stands. -/
def State.declineAsk (s : State) (reason : BitVec 4) : AskOutcome :=
  { kind := .decline, value := reason, staged := s.tx.staged }

/-- R99: the answer to a new ask of kind ASK for profile `p` with number `q`. -/
def State.answerAsk (s : State) (p : Profile) (q : Seq) : AskOutcome :=
  if s.link.state ≠ .run then s.declineAsk reasonHalted
  else if !inSet s.table.negotiated p then s.declineAsk reasonNotEnabled
  else if p = s.tx.active ∧ s.tx.staged = none then
    { kind := .agree, value := 0#4, staged := none }
  else if s.tx.staged ≠ none then s.declineAsk reasonBusy
  else if s.power.limit = .limited then s.declineAsk reasonLimited
  else if s.tx.active < p ∧ 4 ≤ s.tx.owed then s.declineAsk reasonPilotDue
  else if s.power.a < (s.row p).backoff then s.declineAsk reasonPowerLow
  else
    { kind := .agree, value := BitVec.ofNat 4 s.settings.switchLead,
      staged := some { profile := p, countdown := s.settings.switchLead, seq := q } }

/-- R100: the answer to a new ask of kind URGENT for profile `p` with number `q`. -/
def State.answerUrgent (s : State) (p : Profile) (q : Seq) : AskOutcome :=
  if s.link.state ≠ .run then s.declineAsk reasonHalted
  else
    let p' := if inSet s.table.negotiated p then p else highestUpTo s.table.negotiated p
    if s.tx.active < p' then s.answerAsk p' q
    else if p' = s.tx.active then { kind := .agree, value := 0#4, staged := none }
    else
      { kind := .agree, value := 1#4, staged := some { profile := p', countdown := 1, seq := q } }

/-- R98: a new ask is taken, with the outcome `o`. -/
def State.takeAsk (s : State) (q : Seq) (o : AskOutcome) : State :=
  { s with
    hop := { s.hop with
      answer := { lastTaken := some q, kind := o.kind, seq := q, value := o.value } }
    tx := { s.tx with staged := o.staged } }

/-- R98: step 5, the answer lane examines the last ask. A duplicate does nothing. -/
def State.examineAsk (s : State) : State :=
  let q := s.hop.far.askSeq
  if s.hop.answer.lastTaken = some q then s
  else match s.hop.far.askKind with
    | .none => s
    | .ask => s.takeAsk q (s.answerAsk s.hop.far.askProfile q)
    | .urgent => s.takeAsk q (s.answerUrgent s.hop.far.askProfile q)

/-- R102: the current answer is the AGREE that staged the switch `g`. -/
def AnswerLane.staged (a : AnswerLane) (g : StagedSwitch) : Bool :=
  a.kind == .agree && a.seq == g.seq

/-- R102: the answer that staged `g` takes another kind and value; any other answer is left as it stands. -/
def AnswerLane.follow (a : AnswerLane) (g : StagedSwitch) (kind : AnswerKind) (value : BitVec 4) :
    AnswerLane :=
  if a.staged g then { a with kind := kind, value := value } else a

/-! ## One entry (R88) -/

/-- R88 step 1: the far view is updated. -/
def State.updateFar (good : Option Metrics) (s : State) : State :=
  match good with
  | none => s
  | some m => { s with hop := { s.hop with far := FarView.ofHcw m.hcw } }

/-- R88 step 2, in RUN: r follows the header. -/
def State.followGood (good : Option Metrics) (s : State) : State :=
  match good, s.link.state with
  | some m, .run => s.followHeader m.rxProfile
  | _, _ => s

/-- R88 step 3, in RUN: the request lane examines the last answer. -/
def State.examineGood (good : Option Metrics) (s : State) : State :=
  match good, s.link.state with
  | some _, .run => { s with hop := s.hop.examineAnswer s.settings }
  | _, _ => s

/-- R88 step 4, in RUN: the running timer advances, at every entry. -/
def State.advanceInRun (s : State) : State :=
  match s.link.state with
  | .run => s.advanceLaneTimer
  | .config | .sync | .caps => s

/-- R88 step 5: the answer lane examines the last ask. -/
def State.answerGood (good : Option Metrics) (s : State) : State :=
  match good with
  | none => s
  | some _ => s.examineAsk

/-- R88: steps 1, 2, 3 and 5 are made for good-header entries, step 4 for every entry. In SYNC and CAPS only steps 1
and 5 apply, in CONFIG none. -/
def State.signal (s : State) (goodHeader : Option Metrics) : State :=
  let good := if s.link.state = .config then none else goodHeader
  ((((s.updateFar good).followGood good).examineGood good).advanceInRun).answerGood good

/-- The lane's "loaded at this entry" mark, cleared as an entry begins (R88). -/
def State.clearFresh (s : State) : State :=
  { s with hop := { s.hop with lane := { s.hop.lane with fresh := false } } }

/-- R84, R97, R103: the Hop Signalling Unit at an entry to SYNC. -/
def HopSignalling.enterSync (h : HopSignalling) : HopSignalling :=
  { h with lane := .initial, answer := .initial, far := .initial }

/-- R85, R97, R103: the Hop Signalling Unit at LINK_STOP from RUN; the far view stands (R84). -/
def HopSignalling.stop (h : HopSignalling) : HopSignalling :=
  { h with lane := .initial, answer := .initial, r := 0 }

end Sys2Proof.Machine
end

