-- ==== Sys2Proof/Machine/Power.lean ====
section
/-! DEFINITION. Power Control Unit (chapter 7): the receive side and the transmit side at an entry, the TXLIM
filter and A at a slot. -/

namespace Sys2Proof.Machine

/-- R125: the outgoing power request that an entry sets. -/
def outgoingRequest (starved fade : Bool) (rsl rslLow rslHigh : Int) : PowerRequest :=
  if starved then .fastUp
  else if rsl < rslLow - 20 then .fastUp
  else if rsl < rslLow then .up
  else if rslHigh < rsl ∧ fade = false then .down
  else .none

/-- R125: the receive side handles an entry in RUN. -/
def State.powerReceive (s : State) (v : EntryValues) : State :=
  if s.link.state = .run then
    { s with power := { s.power with
        request := outgoingRequest s.est.starved s.fade.inFade v.history.rsl s.settings.rslLow
          s.settings.rslHigh } }
  else s

/-- R126: the value a far request asks for, before clamping. -/
def requested (a : Nat) (r : PowerRequest) : Int :=
  match r with
  | .up => (a : Int) - 1
  | .fastUp => (a : Int) - 3
  | .down => (a : Int) + 1
  | .none => a

/-- R127: the rate limit lets a request act: the counter is 0, or the fade waiver. -/
def rateAllows (count : Nat) (r : PowerRequest) (farFade : Bool) : Bool :=
  count == 0 || ((r == .up || r == .fastUp) && farFade)

/-- R126, R129, R134: atpc_mode as the transmit side reads it at an entry. R129 has a change of it take effect at the
next slot in RUN, and R134 at the next entry or slot that reads it; between a SET and that slot a free value
chooses (assumption 35). -/
def State.entryMode (s : State) : AtpcMode :=
  if Config.freeModeWaits s.freeCount then s.power.slotMode else s.settings.atpcMode

/-- R126, R127: the transmit side at an entry in RUN: the rate-limit counter falls, and the far request of a good
header is applied where atpc_mode, the limit state and the rate limit allow it. The mode is
`State.entryMode`. -/
def State.powerTransmit (s : State) (good : Option Metrics) : State :=
  if s.link.state = .run then
    let count := s.power.rateCount - 1
    let s1 := { s with power := { s.power with rateCount := count } }
    match good with
    | none => s1
    | some m =>
      if s.entryMode = .auto ∧ s.power.limit = .released ∧
          rateAllows count m.hcw.powerReq m.hcw.fade then
        let a := s.clampAtten (requested s.power.a m.hcw.powerReq)
        { s1 with power := { s1.power with
            a := a, rateCount := if a = s.power.a then count else s.settings.powerInterval } }
      else s1
  else s

/-- R133: on each entry to RUN. With the limit state LIMITED, held A becomes backoff(0) (R131). -/
def PowerControl.enterRun (p : PowerControl) (backoff0 : Nat) : PowerControl :=
  { p with a := backoff0, rateCount := 0, request := .none,
           heldA := if p.limit = .limited then some backoff0 else p.heldA }

/-- R133: link loss from RUN and LINK_STOP. -/
def PowerControl.linkEvent (p : PowerControl) : PowerControl :=
  { p with request := .none, rateCount := 0 }

/-- R130: the sample taken at a slot changes the limit state. -/
def PowerControl.limitChanges (p : PowerControl) (sample : LimitSample) : Bool :=
  p.lastSample == some sample &&
    (match sample with
     | .asserted => p.limit == .released
     | .released => p.limit == .limited)

/-- R130: the limit state and the last sample after a slot's sample. -/
def PowerControl.sample (p : PowerControl) (x : LimitSample) : PowerControl :=
  { p with
    limit := if p.limitChanges x then (match x with | .asserted => .limited | .released => .released)
             else p.limit
    lastSample := some x }

/-- R131 step 2: a staged switch above the active profile is removed as the limit comes into effect, and the
answer that staged it becomes DECLINE LIMITED. -/
def State.removeStagedUpshift (s : State) : State :=
  match s.tx.staged with
  | none => s
  | some g =>
    if s.tx.active < g.profile then
      { s with tx := { s.tx with staged := none }
               hop := { s.hop with answer := s.hop.answer.follow g .decline reasonLimited } }
    else s

/-- R130, R131, R132: the TXLIM work of one slot: the filter, held A, the staged upshift, TXLIM_CHANGE. On release
in RUN, A becomes the value held A had (R132); R128 then clamps it. -/
def State.limitWork (s : State) (txlim : Bool) : State :=
  let x : LimitSample := if txlim then .asserted else .released
  let p := s.power.sample x
  let changed := s.power.limitChanges x
  let run := s.link.state == .run
  let s1 := match changed, x with
    | false, _ => { s with power := p }
    | true, .asserted =>
      let s' := { s with power := { p with heldA := some p.a } }
      if run then s'.removeStagedUpshift else s'
    | true, .released =>
      { s with power := { p with heldA := none, a := if run then p.heldA.getD p.a else p.a } }
  s1.raiseIf changed .txlimChange

/-- R128, R129: A at a slot in RUN. -/
def State.slotAtten (s : State) : Nat :=
  match s.power.limit, s.settings.atpcMode with
  | .limited, _ => s.settings.attenMax
  | .released, .fixed => s.clampAtten s.settings.fixedAtten
  | .released, .auto => s.clampAtten s.power.a

/-- R133: A at a slot outside RUN: backoff(0) in SYNC, CAPS and the halt notice, atten_max otherwise. -/
def State.idleAtten (s : State) : Nat :=
  if s.link.state = .config ∧ s.tx.haltCount = 0 then s.settings.attenMax else (s.row 0).backoff

end Sys2Proof.Machine
end

