-- ==== Sys2Proof/Machine/Status.lean ====
section
/-! DEFINITION. The status groups and watch reports (R15, R38, R56, R79, R105, R121, R135, R149, R163, R179,
R180, R183). Each group is the list of its items' bytes in the order its rules list them. -/

namespace Sys2Proof.Machine

/-- R183: an optional part: a presence byte, then its fields when present. -/
def lePart (o : Option (List Byte)) : List Byte :=
  match o with
  | none => [0#8]
  | some bs => 1#8 :: bs

/-- A profile index that may be absent (R183). -/
def leProfile (o : Option Profile) : List Byte := leOpt (o.map Fin.val)

/-- Group 0, link: R149, then R15, then R163. -/
def State.group0 (s : State) : List Byte :=
  le8 s.link.state.code ++ le8 s.intake.state.code ++ leNat16 (s.link.acqTimer.getD 0) ++
    le8 s.link.farWatch ++ le8 s.link.missing ++
    le16 s.table.ownMask ++ [s.table.farHalf0] ++ leBool s.table.mark0 ++ [s.table.farHalf1] ++
    leBool s.table.mark1 ++ le16 s.table.negotiated ++ lePart (s.table.pendingSwap.map le8) ++
    le16 s.intake.expected ++ le8 s.intake.runLen ++
    le16 (if s.intake.runLen = 0 then 0#16 else s.intake.runLast) ++ le8 s.intake.badCount ++
    leNat16 s.intake.resyncCount ++ le8 (s.intake.silence.getD 0)

/-- Group 1, estimator: R38. -/
def State.group1 (s : State) : List Byte :=
  lePart (s.est.ring.head?.map HistoryEntry.bytes) ++ leNat16 s.est.ring.length ++ leSnr s.est.s16 ++
    leInt16 s.est.offMain ++ leInt16 s.est.offSpace ++ le8 s.est.hold ++ leBool s.est.starved

/-- R79: the last result; none is a rule byte of 0xFF and a target of 0xFF (R183), with an urgency that the manual
leaves open, the free value of the state's counter `k` (assumption 9). -/
def resultBytes (k : Nat) (o : Option DecisionResult) : List Byte :=
  match o with
  | none => [0xFF#8, 0xFF#8] ++ leBool (Config.freeAbsentUrgency k)
  | some x => le8 x.rule.code ++ le8 x.target.val ++ leBool x.urgent

/-- R79: the force mode, with its profile for CEILING and PINNED. -/
def forceBytes (m : ForceMode) : List Byte :=
  match m with
  | .auto => [0#8, 0xFF#8]
  | .ceiling c => 1#8 :: le8 c.val
  | .pinned p => 2#8 :: le8 p.val

/-- Group 2, decision: R79. -/
def State.group2 (s : State) : List Byte :=
  le8 s.hop.r.val ++ resultBytes s.freeCount s.decision.last ++ forceBytes s.decision.force ++
    leNat16 s.decision.holdoff ++ le8 s.decision.downDwell ++ leProfile s.decision.upCandidate ++
    leNat16 s.decision.upDwell ++ le8 s.decision.errorWindow.length ++
    le8 (uncorrectableCount s.decision.errorWindow)

/-- R105, R183: the running timer of the request lane: a choice (none, answer, deadline, backoff), then 2
bytes. -/
def laneTimerBytes (l : RequestLane) : List Byte :=
  match l.state with
  | .steady => 0#8 :: leNat16 0
  | .asking => 1#8 :: leNat16 l.answerTimer
  | .switching => 2#8 :: leNat16 l.deadline
  | .backoff => 3#8 :: leNat16 l.backoffTimer

/-- R183: a sequence number or a code carried in a few bits, as one byte. -/
def leBits {n : Nat} (x : BitVec n) : List Byte := [x.setWidth 8]

/-- R105: every item of the far view. -/
def farViewBytes (f : FarView) : List Byte :=
  leBits f.phase.code ++ leBool f.fade ++ leBits f.askKind.code ++ leBits f.askSeq ++
    le8 f.askProfile.val ++ leBits f.ansKind.code ++ leBits f.ansSeq ++ leBits f.ansValue ++
    leBits f.powerReq.code

/-- Group 3, signalling: R105. The pending ask's urgency is ASK (0) or URGENT (1), in the order of R87. -/
def State.group3 (s : State) : List Byte :=
  le8 s.hop.lane.state.code ++ leBits s.hop.lane.seq ++
    lePart (s.hop.lane.pending.map fun a => le8 a.profile.val ++ leBool a.urgent) ++
    laneTimerBytes s.hop.lane ++ le8 s.hop.lane.timeouts ++
    leOpt (s.hop.answer.lastTaken.map BitVec.toNat) ++ leBits s.hop.answer.kind.code ++
    leBits s.hop.answer.seq ++ leBits s.hop.answer.value ++ farViewBytes s.hop.far

/-- Group 4, transmit: R121, then R135. -/
def State.group4 (s : State) : List Byte :=
  le8 s.tx.active.val ++
    lePart (s.tx.staged.map fun g => le8 g.profile.val ++ le8 g.countdown ++ leBits g.seq) ++
    le8 s.tx.owed ++ leBool s.tx.lastPilot ++ leNat16 (s.tx.pilotTimer.getD 0) ++
    le8 s.tx.haltCount ++ le16 s.tx.expectedSlot ++
    le8 s.power.a ++ le8 s.floor ++ le8 s.power.limit.code ++
    leOpt (s.power.lastSample.map LimitSample.code) ++ leOpt s.power.heldA ++
    le8 s.power.rateCount ++ leBits s.power.request.code

/-- R56: the open record as it would be if it closed as RECOVERED now, with ended_by sent as 0xFF. -/
def openFadeBytes (o : OpenFade) (set : Settings) : List Byte :=
  fadeBytes o (o.close set .recovered).maxDepth (o.close set .recovered).kind none

/-- Group 5, fade: R56. -/
def State.group5 (s : State) : List Byte :=
  leBool s.fade.inFade ++ le8 s.fade.entryLen ++
    le16 (if s.fade.entryLen = 0 then 0#16 else s.fade.entryFirst) ++ le8 s.fade.exitLen ++
    leNat32 (if s.fade.exitLen = 0 then 0 else s.fade.exitAcc.duration) ++ leBool s.fade.longMark ++
    leNat32 s.fade.idCounter ++ le8 s.fade.log.length ++
    lePart (s.fade.openFade.map fun o => openFadeBytes o s.settings)

/-- R179: one named group: its number, its length, its contents. -/
def groupBytes (mask : BitVec 6) (g : Nat) (contents : List Byte) : List Byte :=
  if mask.getLsbD g then le8 g ++ le8 contents.length ++ contents else []

/-- R179: the named groups, from the lowest group number to the highest. -/
def State.groups (s : State) (mask : BitVec 6) : List Byte :=
  groupBytes mask 0 s.group0 ++ groupBytes mask 1 s.group1 ++ groupBytes mask 2 s.group2 ++
    groupBytes mask 3 s.group3 ++ groupBytes mask 4 s.group4 ++ groupBytes mask 5 s.group5

/-- R180: the WATCH notice: the report number, the trigger, the mask and the groups. -/
def State.watchNotice (s : State) (t : WatchTrigger) : Message :=
  { kind := 0x42#8, tag := 0#8,
    payload := le16 (s.host.watch.report + 1#16) ++ le8 t.code ++ leBits s.host.watch.mask ++
      s.groups s.host.watch.mask }

/-- R174, R180: a triggered report is assembled: it takes its number, and is queued or, with fewer than two free
places, dropped with WATCH_DROPPED. -/
def State.assembleReport (s : State) (t : WatchTrigger) : State :=
  let m := s.watchNotice t
  let w := { s.host.watch with report := s.host.watch.report + 1#16,
                               triggered := s.host.watch.triggered.drop 1 }
  let s1 := { s with host := ({ s.host with watch := w } : HostLink).notice m }
  s1.raiseIf (decide (s.host.freePlaces < 2)) .watchDropped

/-- R180: every report that waits is assembled, oldest first (assumption 30). -/
def State.assembleReports (s : State) : State := s.host.watch.triggered.foldl State.assembleReport s

/-- R38: a report triggered by an entry itself (ONCE, PERIODIC). It is assembled after the Estimator has finished
with that entry, and shows that entry as the newest. -/
def WatchTrigger.byEntry : WatchTrigger → Bool
  | .once | .periodic => true
  | .rxChange | .txChange => false

/-- R38: a report that waits was triggered by an entry. -/
def WatchState.entryWaits (w : WatchState) : Bool := w.triggered.any WatchTrigger.byEntry

/-- R38: as an entry begins, a report that an entry before it triggered, and that still waits, is assembled, since it
shows that entry as the newest (assumption 30). -/
def State.reportEarlier (s : State) : State :=
  if s.host.watch.entryWaits then s.assembleReports else s

end Sys2Proof.Machine
end

