-- ==== Sys2Proof/Machine/Transmit.lean ====
section
/-! DEFINITION. Transmit Frame Builder (chapter 6): pilots, the steps of a slot, descriptors; the slot event. -/

namespace Sys2Proof.Machine

/-! ## Pilots -/

/-- R118: one pilot added to pilots owed; at 8 the count stops, and PILOT_OVERDUE is raised. -/
def State.addPilot (s : State) : State :=
  { s with tx := { s.tx with owed := saturate Config.pilotDebtLimit (s.tx.owed + 1) } }
    |>.raiseIf (decide (Config.pilotDebtLimit ≤ s.tx.owed + 1)) .pilotOverdue

/-- R106, R117: the pilot timer loaded with pilot_interval, or stopped when that is 0. -/
def loadPilotTimer (interval : Nat) : Option Nat := if interval = 0 then none else some interval

/-- R117: the first slot after a SET of pilot_interval answered OK loads the timer. -/
def State.reloadPilotTimer (s : State) : State :=
  { s with tx := { s.tx with
      pilotTimer := if s.tx.pilotReload then loadPilotTimer s.settings.pilotInterval
                    else s.tx.pilotTimer
      pilotReload := false } }

/-- R117: the pilot timer reaches 0: a pilot falls due and the timer is loaded again. -/
def State.expirePilotTimer (s : State) : State :=
  { s with tx := { s.tx with pilotTimer := loadPilotTimer s.settings.pilotInterval } }.addPilot

/-- R117: step 4 of a slot in RUN. -/
def State.advancePilotTimer (s : State) : State :=
  match s.tx.pilotTimer with
  | none => s
  | some n =>
    if n ≤ 1 then s.expirePilotTimer else { s with tx := { s.tx with pilotTimer := some (n - 1) } }

/-- R119: the conditions under which the frame of a slot is a pilot, as they stand at step 5. -/
def State.pilotDue (s : State) : Bool :=
  decide (1 ≤ s.tx.owed) && s.tx.staged.isNone && !s.hop.far.fade && !s.tx.lastPilot

/-- R119: pilots owed after step 5. -/
def State.payPilot (s : State) (pilot : Bool) : State :=
  { s with tx := { s.tx with owed := if pilot then s.tx.owed - 1 else s.tx.owed } }

/-! ## Steps 1 to 3 of a slot in RUN -/

/-- A change of the active profile at a slot: TX_SWITCH, which also triggers a watch in mode ON_SWITCH (R121,
R180). -/
def State.txSwitched (s : State) : State := (s.raise .txSwitch).watchSwitch .txChange

/-- R108: step 1, a staged switch whose profile is not a member of `n` is cancelled. -/
def State.cancelStaged (n : ProfileSet) (s : State) : State :=
  match s.tx.staged with
  | none => s
  | some g =>
    if inSet n g.profile then s
    else
      { s with tx := { s.tx with staged := none }
               hop := { s.hop with answer := s.hop.answer.follow g .decline reasonNotEnabled } }

/-- R109: the staged part after the active profile has dropped to `p`: gone, as though executed, when it is for
`p`. -/
def State.settleDrop (p : Profile) (s : State) : State :=
  match s.tx.staged with
  | none => s
  | some g =>
    if g.profile = p then
      { s with tx := { s.tx with staged := none }
               hop := { s.hop with answer := s.hop.answer.follow g .agree 0#4 } }
    else s

/-- R109: step 2, the unilateral drop of an active profile that is not a member of `n`. -/
def State.dropActive (n : ProfileSet) (s : State) : State :=
  if inSet n s.tx.active then s
  else
    let p := highestBelow n s.tx.active
    ({ s with tx := { s.tx with active := p } }.settleDrop p).txSwitched

/-- R110: step 3, a staged switch counts down, and executes at 0. -/
def State.countStaged (s : State) : State :=
  match s.tx.staged with
  | none => s
  | some g =>
    if g.countdown ≤ 1 then
      { s with tx := { s.tx with active := g.profile, staged := none }
               hop := { s.hop with answer := s.hop.answer.follow g .agree 0#4 } }.txSwitched
    else
      let c := g.countdown - 1
      { s with tx := { s.tx with staged := some { g with countdown := c } }
               hop := { s.hop with answer := s.hop.answer.follow g .agree (BitVec.ofNat 4 c) } }

/-! ## Descriptors -/

/-- R82, R112: the HCW of a descriptor built in RUN. -/
def State.runHcw (s : State) : Hcw :=
  let l := s.hop.lane
  let askKind : AskKind := match l.state, l.pending with
    | .asking, some a | .switching, some a => if a.urgent then .urgent else .ask
    | _, _ => .none
  let none? := s.hop.answer.kind == .none
  { phase := .run
    askKind := askKind
    askSeq := l.seq
    askProfile := if askKind = .none then 0 else l.pending.elim 0 (·.profile)
    ansKind := s.hop.answer.kind
    ansSeq := if none? then 0#3 else s.hop.answer.seq
    ansValue := if none? then 0#4 else s.hop.answer.value
    powerReq := s.power.request
    fade := s.fade.inFade
    capsHalf := s.tx.nextHalf
    capsByte := s.table.capsByte s.tx.nextHalf }

/-- R113, R114: the HCW of a descriptor outside RUN. When ask_kind is NONE, ask_seq carries the current number
(R80). -/
def State.idleHcw (s : State) : Hcw :=
  { phase := match s.link.state with
      | .config => if s.tx.haltCount = 0 then .sync else .halt
      | .sync => .sync
      | .caps => .caps
      | .run => .run
    askKind := .none, askSeq := s.hop.lane.seq, askProfile := 0, ansKind := .none, ansSeq := 0#3,
    ansValue := 0#4, powerReq := .none, fade := false,
    capsHalf := s.tx.nextHalf, capsByte := s.table.capsByte s.tx.nextHalf }

/-- R112: step 6, the descriptor of a slot in RUN. -/
def State.runDescriptor (s : State) (echo : FrameNo) (pilot : Bool) : Descriptor :=
  { echo := echo, profile := s.tx.active, attenuation := s.power.a, mute := false, pilot := pilot,
    hcw := s.runHcw }

/-- R113, R114: the descriptor of a slot outside RUN; muted in CONFIG unless a halt notice is running. -/
def State.idleDescriptor (s : State) (echo : FrameNo) : Descriptor :=
  { echo := echo, profile := 0, attenuation := s.power.a,
    mute := s.link.state == .config && s.tx.haltCount == 0, pilot := false, hcw := s.idleHcw }

/-- R107, R161: the descriptor is returned; the next caps half changes, and last pilot and the halt-notice count
follow the descriptor (R114). -/
def State.send (s : State) (d : Descriptor) : State :=
  { s with
    intake := { s.intake with sending := some { descriptor := d, record := d.record } }
    tx := { s.tx with
      nextHalf := !s.tx.nextHalf
      lastPilot := d.pilot
      haltCount := if s.link.state = .config then s.tx.haltCount - 1 else s.tx.haltCount } }

/-! ## The slot event (R107) -/

/-- R107: the slot number the descriptor will echo. -/
def State.slotEcho (s : State) (x : SlotRecord) : FrameNo :=
  if x.good then x.number else s.tx.expectedSlot

/-- R107: the echo is fixed, and the expected slot number becomes the echo plus one. -/
def State.fixEcho (s : State) (x : SlotRecord) : State :=
  { s with tx := { s.tx with expectedSlot := s.slotEcho x + 1#16 } }

/-- R107: steps 1 to 3 of a slot in RUN, all with the N read at the start of the slot. -/
def State.slotSwitches (s : State) : State :=
  ((s.cancelStaged s.table.negotiated).dropActive s.table.negotiated).countStaged

/-- R107: steps 4 to 6 of a slot in RUN; the Power Control Unit's slot work comes at step 6 (R128), and
a change of atpc_mode takes effect with it (R129). DESIGN CHOICE: R117
has the pilot timer loaded after a SET of pilot_interval before step 4; the model loads it here, after steps 1
to 3, right before step 4 (assumption 34). -/
def State.slotFinish (s : State) (echo : FrameNo) (txlim : Bool) : State :=
  let s1 := s.reloadPilotTimer.advancePilotTimer
  let pilot := s1.pilotDue
  let s2 := (s1.payPilot pilot).limitWork txlim
  let s3 := { s2 with power := { s2.power with a := s2.slotAtten, slotMode := s2.settings.atpcMode } }
  s3.send (s3.runDescriptor echo pilot)

/-- R133: A set at a slot outside RUN. -/
def State.setIdleAtten (s : State) : State := { s with power := { s.power with a := s.idleAtten } }

/-- R130, R131, R133: the Power Control Unit at a slot outside RUN: the TXLIM work and the setting of A. The manual
does not say which comes first, and held A takes A as the limit comes into effect: a free value (assumption
31). -/
def State.idlePower (s : State) (txlim : Bool) : State :=
  (if Config.freeHeldAfter s.freeCount then s.setIdleAtten.limitWork txlim else s.limitWork txlim).setIdleAtten

/-- R113, R114, R130, R131, R133: a slot in CONFIG, SYNC or CAPS. Whether held A takes A as it stood before the slot
or as the slot sets it is a free value (`State.idlePower`, assumption 31). -/
def State.slotIdle (s : State) (echo : FrameNo) (txlim : Bool) : State :=
  let s1 := s.reloadPilotTimer.idlePower txlim
  s1.send (s1.idleDescriptor echo)

/-- R8: the attempt at a pending swap, if this is its place in the slot. -/
def State.trySwapAt (place here : SwapPlace) (s : State) : State :=
  if place = here then s.trySwap else s

/-- R8: where in this slot the attempt falls: a free value, read only while a swap is pending. -/
def State.swapPlace (s : State) : SwapPlace :=
  if s.table.pendingSwap.isSome then Config.freeSwapPlace s.freeCount else .before

/-- The counter of the free values moves on; it does so at every entry and every slot. -/
def State.countFree (s : State) : State := { s with freeCount := s.freeCount + 1 }

/-- R180: a watch report that waits is assembled within a slot in RUN as an event of its own, or it waits on for
WATCH_REPORT: a free value (assumption 30). -/
def State.reportInSlot (point : SlotPoint) (s : State) : State :=
  if Config.freeReportInSlot s.freeCount point then s.assembleReports else s

/-- R107: a slot event. Within a slot in RUN, which may trigger a watch report (TX_SWITCH), the report may come at
the points of `State.reportInSlot`. -/
def State.slotEvent (s : State) (x : SlotRecord) (txlim : Bool) : State :=
  let place := s.swapPlace
  let echo := s.slotEcho x
  let s1 := ((s.countFree).trySwapAt place .before).fixEcho x
  let s2 :=
    if s1.link.state = .run then
      let t := (s1.slotSwitches.reportInSlot .switched).trySwapAt place .middle
      ((t.reportInSlot .attempted).slotFinish echo txlim).reportInSlot .filled
    else (s1.trySwapAt place .middle).slotIdle echo txlim
  s2.trySwapAt place .after

/-- R116: link loss from RUN and LINK_STOP. -/
def TransmitRecord.linkEvent (t : TransmitRecord) : TransmitRecord :=
  { t with active := 0, staged := none }

end Sys2Proof.Machine
end

