-- ==== Sys2Proof/Machine/Link.lean ====
section
/-! DEFINITION. Link State Controller (chapter 8): entry to SYNC, link loss, stop, start, the watches; and the
Intake's changes of state (chapter 9) that set them off. -/

namespace Sys2Proof.Machine

/-- R136: an entry to SYNC, with the changes the other blocks make at it: R12, R36, R84, R97, R103, R133. -/
def State.enterSync (s : State) : State :=
  { s with
    link := { s.link with state := .sync }
    table := s.table.clearMarks
    est := s.est.enterSync
    hop := s.hop.enterSync
    power := { s.power with request := .none } }.markDegraded

/-- R142: the acquisition timer is loaded with acq_timeout. -/
def State.loadAcqTimer (s : State) : State :=
  { s with link := { s.link with acqTimer := some s.settings.acqTimeout } }

/-- R146: link loss, with the link-loss changes of R50, R78, R85, R116 and R133. -/
def State.linkLoss (s : State) : State :=
  let s1 := (s.enterSync.raise .linkLoss).loadAcqTimer
  { s1 with
    decision := s1.decision.linkEvent
    tx := s1.tx.linkEvent
    power := s1.power.linkEvent
    hop := { s1.hop with r := 0 } }.fadeLinkEvent .linkLost

/-- R140, R143: the intake has reached SEARCH from RESYNC: link loss in RUN, a return to SYNC in CAPS (the
acquisition timer runs on), nothing in SYNC. -/
def State.searchReached (s : State) : State :=
  match s.link.state with
  | .run => s.linkLoss
  | .caps => s.enterSync
  | .sync | .config => s

/-- R139: the received mark of the half that `capsHalf` does not name. -/
def ProfileTable.otherMark (t : ProfileTable) (capsHalf : Bool) : Bool :=
  if capsHalf then t.mark0 else t.mark1

/-- R141: the link enters RUN. -/
def State.enterRun (s : State) : State :=
  { s with
    link := { s.link with state := .run, acqTimer := none, farWatch := 0, missing := 0 }
    power := s.power.enterRun (s.row 0).backoff }.raise .linkUp

/-- R144: the far-phase watch count after an entry. -/
def nextFarWatch (good : Option Metrics) (n : Nat) : Nat :=
  match good with
  | none => n
  | some m => match m.hcw.phase with
    | .sync | .halt => n + 1
    | .caps | .run => 0

/-- R145: the missing-header count after an entry. -/
def nextMissing (good : Option Metrics) (n : Nat) : Nat :=
  match good with
  | none => n + 1
  | some _ => 0

/-- R144, R145: the two watches at an entry in RUN. -/
def State.watchLink (s : State) (good : Option Metrics) : State :=
  let far := nextFarWatch good s.link.farWatch
  let missing := nextMissing good s.link.missing
  let s' := { s with link := { s.link with farWatch := far, missing := missing } }
  if Config.farPhaseLimit ≤ far ∨ Config.missingHeaderLimit ≤ missing then s'.linkLoss else s'

/-- R139, R141, R144, R145: the Link State Controller handles an entry. -/
def State.linkEntry (s : State) (good : Option Metrics) : State :=
  match s.link.state, good with
  | .sync, some m =>
    if s.table.otherMark m.hcw.capsHalf then { s with link := { s.link with state := .caps } } else s
  | .caps, some m =>
    match m.hcw.phase with
    | .caps | .run => s.enterRun
    | .sync | .halt => s
  | .run, _ => s.watchLink good
  | .sync, none | .caps, none | .config, _ => s

/-- R142: the acquisition timer expires, in SYNC or CAPS. -/
def State.expireAcqTimer (s : State) : State :=
  (s.raise .acqTimeout).enterSync.loadAcqTimer

/-! ## The Intake's state, set from outside it (R151) -/

/-- R151: the intake state is set, and the run, the counts and the silence timer are emptied. -/
def Intake.set (i : Intake) (st : IntakeState) : Intake :=
  { i with state := st, runLen := 0, badCount := 0, resyncCount := 0, silence := none }

/-- R137: LINK_START taken in CONFIG. -/
def State.startLink (s : State) : State :=
  let s1 := { s with
    intake := s.intake.set .search
    tx := { s.tx with haltCount := 0 }
    link := { s.link with farWatch := 0, missing := 0 } }
  s1.enterSync.loadAcqTimer

/-- R138: what LINK_STOP does from SYNC, CAPS and RUN alike (R114, R116, R133). -/
def State.stopCommon (s : State) : State :=
  { s with
    link := { s.link with state := .config, acqTimer := none, farWatch := 0, missing := 0 }
    intake := s.intake.set .idle
    tx := { s.tx.linkEvent with haltCount := Config.haltNoticeLength }
    power := s.power.linkEvent }.markDegraded

/-- R138: LINK_STOP taken in SYNC, CAPS or RUN. From RUN the blocks that keep state about the link make their
link-stop changes: R50, R78, R85, R97, R103. -/
def State.stopLink (s : State) : State :=
  if s.link.state = .run then
    { s.stopCommon with hop := s.hop.stop, decision := s.decision.linkEvent }.fadeLinkEvent .stopped
  else s.stopCommon

end Sys2Proof.Machine
end

