-- ==== Sys2Proof/Machine/Intake.lean ====
section
/-! DEFINITION. Modem Link Intake (chapter 9), and the handling of one entry by every block (R16, R88). -/

namespace Sys2Proof.Machine

/-! ## The order of the blocks at an entry -/

/-- The order the model takes where the free value is not an order that R16 allows. -/
def defaultEntryOrder : List EntryBlock :=
  [.estimator, .fadeTracker, .decision, .hopSignalling, .powerReceive, .powerTransmit, .monitor,
   .farMask, .swap, .linkState]

/-- `a` stands before `b` in the order. -/
def standsBefore (order : List EntryBlock) (a b : EntryBlock) : Bool :=
  decide (order.idxOf a < order.idxOf b)

/-- R16: an order the manual allows: each block once, and the Estimator before the Fade Tracker, the Decision
Unit, the receive side of the Power Control Unit and the Performance Monitor. -/
def orderAllowed (order : List EntryBlock) : Bool :=
  order.length == defaultEntryOrder.length && defaultEntryOrder.all (order.contains ·) &&
    [EntryBlock.fadeTracker, .decision, .powerReceive, .monitor].all (standsBefore order .estimator)

/-- The order of the blocks at the k-th entry: free, within what R16 fixes (assumption 1). -/
def entryOrder (k : Nat) : List EntryBlock :=
  if orderAllowed (Config.freeEntryOrder k) then Config.freeEntryOrder k else defaultEntryOrder

/-! ## One entry -/

/-- R164, R168: the Performance Monitor handles an entry. -/
def State.monitorEntry (s : State) (v : EntryValues) : State :=
  let m := s.monitor
  { s with monitor := { m with
      t := saturate 65535 (m.t + 1)
      h := saturate 65535 (m.h + (if v.history.held then 1 else 0))
      u := saturate 65535 (m.u + (if v.history.uncorrectable then 1 else 0))
      current := if s.link.state = .run then m.current.countEntry s.hop.r v.history.s
                 else m.current } }

/-- R11: the caps byte of a good header. -/
def State.takeFarMask (s : State) (good : Option Metrics) : State :=
  match good with
  | none => s
  | some m => { s with table := s.table.takeCaps m.hcw.capsHalf m.hcw.capsByte }

/-- The controller part of the way through an entry: the state, and the Estimator's values once it has acted. -/
structure EntryProgress where
  state  : State
  values : Option EntryValues
  deriving DecidableEq, Repr

/-- A block that acts on the Estimator's values. -/
def EntryProgress.after (p : EntryProgress) (f : State → EntryValues → State) : EntryProgress :=
  match p.values with
  | some v => { p with state := f p.state v }
  | none => p

/-- One block handles the entry `e`, whose good header (if it has one) is `good`. -/
def EntryProgress.block (e : Entry) (good : Option Metrics) (p : EntryProgress) :
    EntryBlock → EntryProgress
  | .estimator => { state := (p.state.estimate e).1, values := some (p.state.estimate e).2 }
  | .fadeTracker => p.after State.trackFade
  | .decision => p.after State.runDecision
  | .hopSignalling => { p with state := p.state.signal good }
  | .powerReceive => p.after State.powerReceive
  | .powerTransmit => { p with state := p.state.powerTransmit good }
  | .monitor => p.after State.monitorEntry
  | .farMask => { p with state := p.state.takeFarMask good }
  | .swap => { p with state := p.state.swapAtEntry }
  | .linkState => { p with state := p.state.linkEntry good }

/-- R38, R79, R180: after a block has handled the entry, the watch reports that wait are assembled as an event of
their own, or they wait on: a free value (assumption 30). One that this entry triggered comes after the
Estimator (R38). -/
def EntryProgress.report (b : EntryBlock) (p : EntryProgress) : EntryProgress :=
  if Config.freeReportAfter p.state.freeCount b ∧ (p.values.isSome ∨ p.state.host.watch.entryWaits = false) then
    { p with state := p.state.assembleReports }
  else p

/-- A block handles the entry, and a watch report may come after it. -/
def EntryProgress.advance (e : Entry) (good : Option Metrics) (p : EntryProgress) (b : EntryBlock) :
    EntryProgress :=
  (p.block e good b).report b

/-- The blocks handle the entry in the given order. -/
def State.runBlocks (s : State) (e : Entry) (order : List EntryBlock) : State :=
  (order.foldl (EntryProgress.advance e (e.good s.settings.divMode)) { state := s, values := none }).state

/-- R180: an entry delivered, at the watch. -/
def State.watchEntry (s : State) : State :=
  { s with host := { s.host with watch := s.host.watch.entry } }

/-- R16, R154, R180: one entry, handled whole by every block. The watch is told of it first, so that the report it
triggers can come between the blocks (R79) and shows this entry as the newest (R38, assumption 30). -/
def State.handleEntry (s : State) (e : Entry) : State :=
  (s.reportEarlier.clearFresh.countFree.watchEntry).runBlocks e (entryOrder s.freeCount)

/-! ## Delivery (R154, R160) -/

/-- R154: a held frame bearing the number `n`. -/
def heldFrame (n : FrameNo) : Entry :=
  { frame := n, resumed := false, record := none, headerValid := false }

/-- R160: whether a record's header is valid, against the own mask as it stands when the record is taken. -/
def State.headerValid (s : State) (m : Metrics) : Bool :=
  m.headerValid && inSet s.table.ownMask m.rxProfile

/-- R154, R160: an accepted record is delivered as an entry; `valid` is its header's validity. RX_UNEXPECTED is
raised when the header names a profile that is not enabled. DESIGN CHOICE: before the record's own entry, and after the
held frames of its gap (assumption 11). -/
def State.deliver (s : State) (m : Metrics) (resumed valid : Bool) : State :=
  (s.raiseIf (m.headerValid && !valid) .rxUnexpected).handleEntry
    { frame := m.frame, resumed := resumed, record := some m, headerValid := valid }

/-- R154: `n` held frames, bearing consecutive numbers from `first`. -/
def State.deliverHeld (s : State) (first : FrameNo) : Nat → State
  | 0 => s
  | n + 1 => (s.handleEntry (heldFrame first)).deliverHeld (first + 1#16) n

/-! ## The Intake's own changes of state -/

/-- R158: the silence timer is loaded with record_timeout. -/
def State.loadSilence (s : State) : State :=
  { s with intake := { s.intake with silence := some s.settings.recordTimeout } }

/-- R156: the intake enters RESYNC. -/
def State.enterResync (s : State) : State :=
  ({ s with intake := { s.intake with
      state := .resync, runLen := 0, resyncCount := 0, badCount := 0 } }.raise .resync).starve.markDegraded

/-- R157, R158: the intake falls from RESYNC to SEARCH, and the Link State Controller reacts. -/
def State.enterSearch (s : State) : State :=
  { s with intake := { s.intake with state := .search, runLen := 0 } }.markDegraded.searchReached

/-- R153: the length of the run with a good record numbered `n`. -/
def Intake.runWith (i : Intake) (n : FrameNo) : Nat :=
  if i.runLen ≠ 0 ∧ n = i.runLast + 1#16 then i.runLen + 1 else 1

/-- R153: the run takes a good record numbered `n`. -/
def Intake.takeRun (i : Intake) (n : FrameNo) : Intake :=
  { i with runLen := i.runWith n, runLast := n }

/-- R157: a record in RESYNC acts on the run as in SEARCH. -/
def Intake.resyncRun (i : Intake) (good : Bool) (n : FrameNo) : Intake :=
  if good then i.takeRun n else { i with runLen := 0 }

/-- R153, R157: the intake becomes LOCKED, and the record that brought it there is delivered as a resumed entry. The
intake's own items stand as they are after the record before the entry is delivered: the manual does not say
which comes first, and a watch report within the entry shows them (assumption 33). -/
def State.lock (s : State) (m : Metrics) : State :=
  let valid := s.headerValid m
  { s with intake := { s.intake with
      state := .locked, expected := m.frame + 1#16, runLen := 0, badCount := 0,
      resyncCount := if s.intake.state = IntakeState.resync then 0 else s.intake.resyncCount } }.deliver m true valid

/-- R153: a record in SEARCH. -/
def State.searchRecord (s : State) (good : Bool) (m : Metrics) : State :=
  if good then
    if s.settings.lockCount ≤ s.intake.runWith m.frame then s.lock m
    else { s with intake := s.intake.takeRun m.frame }
  else { s with intake := { s.intake with runLen := 0 } }

/-- R154: a good record in LOCKED. The expected number and the bad-check count stand as they are after the record
before any of its entries is delivered (assumption 33). -/
def State.lockedGood (s : State) (m : Metrics) : State :=
  let first := s.intake.expected
  let g := (m.frame - first).toNat
  let valid := s.headerValid m
  let s1 := { s with intake := { s.intake with badCount := 0 } }
  if g ≤ 3 then
    ({ s1 with intake := { s1.intake with expected := m.frame + 1#16 } }.deliverHeld first g).deliver
      m false valid
  else if g = 65535 then s1
  else s1.enterResync

/-- R155: a record with a bad check in LOCKED. The expected number and the bad-check count rise before the held frame
is delivered (assumption 33). -/
def State.lockedBad (s : State) : State :=
  if s.intake.badCount + 1 < s.settings.badLimit then
    { s with intake := { s.intake with
        badCount := s.intake.badCount + 1, expected := s.intake.expected + 1#16 } }.handleEntry
      (heldFrame s.intake.expected)
  else s.enterResync

/-- R157: a record in RESYNC. -/
def State.resyncRecord (s : State) (good : Bool) (m : Metrics) : State :=
  let count := s.intake.resyncCount + 1
  let i := s.intake.resyncRun good m.frame
  let s1 := { s with intake := { i with resyncCount := count } }
  if good ∧ 4 ≤ i.runLen then s1.lock m
  else if s.settings.resyncLimit < count then s1.enterSearch
  else s1

/-- R152 to R158: an RX_METRICS record, its code byte included, is taken by the intake state. -/
def State.takeMetrics (s : State) (bs : List Byte) : State :=
  let good := goodRecord metricsLength bs
  let m := parseMetrics bs
  match s.intake.state with
  | .idle => s
  | .search => s.loadSilence.searchRecord good m
  | .locked => if good then s.loadSilence.lockedGood m else s.loadSilence.lockedBad
  | .resync => s.loadSilence.resyncRecord good m

/-- R158: the silence timer expires. -/
def State.expireSilence (s : State) : State :=
  match s.intake.state with
  | .idle => s
  | .search => { s with intake := { s.intake with runLen := 0, silence := none } }
  | .locked => s.enterResync.loadSilence
  | .resync => { s with intake := { s.intake with silence := none } }.enterSearch

/-! ## Slots (R161) -/

/-- R161: a TX_SLOT record, its code byte included: taken at once when no descriptor is being returned, kept as
the waiting slot when none waits, and discarded otherwise. -/
def State.takeSlot (s : State) (bs : List Byte) (txlim : Bool) : State :=
  match s.intake.sending, s.intake.waiting with
  | none, _ => s.slotEvent (parseSlot bs) txlim
  | some _, none => { s with intake := { s.intake with waiting := some (parseSlot bs) } }
  | some _, some _ => s

/-- R161: the descriptor being returned has been sent, and a waiting slot is then taken. -/
def State.finishDescriptor (s : State) (txlim : Bool) : State :=
  match s.intake.sending with
  | none => s
  | some _ =>
    let s1 := { s with intake := { s.intake with sending := none, waiting := none } }
    match s.intake.waiting with
    | none => s1
    | some x => s1.slotEvent x txlim

end Sys2Proof.Machine
end

