-- ==== Sys2Proof/Machine/Setting.lean ====
section
/-! DEFINITION. The settings catalogue (R176): values by id, ranges, enumerations, cross-setting checks, SET. -/

namespace Sys2Proof.Machine

/-- The code of a div_mode (R176: the codes run from 0 in the order of the table). -/
def DivMode.code : DivMode → Int
  | .combine => 0 | .select => 1 | .main => 2 | .space => 3

/-- The div_mode of a code. -/
def divModeOf (v : Int) : DivMode :=
  if v = 1 then .select else if v = 2 then .main else if v = 3 then .space else .combine

/-- The code of an atpc_mode. -/
def AtpcMode.code : AtpcMode → Int
  | .auto => 0 | .fixed => 1

/-- R176: the value in force of the setting with the given id; absent outside 1..35. -/
def Settings.get (x : Settings) (id : Nat) : Option Int :=
  match id with
  | 1 => some x.divMode.code
  | 2 => some x.stressWeight
  | 3 => some x.smoothDown
  | 4 => some x.smoothUp
  | 5 => some x.horizon
  | 6 => some x.holdLimit
  | 7 => some x.clearSky
  | 8 => some x.fadeEnter
  | 9 => some x.fadeExit
  | 10 => some x.fadePersist
  | 11 => some x.fadeLimit
  | 12 => some x.stressSelective
  | 13 => some x.urgentMargin
  | 14 => some x.downDwell
  | 15 => some x.upDwell
  | 16 => some x.upHoldoff
  | 17 => some (if x.errorOverride then 1 else 0)
  | 18 => some x.switchLead
  | 19 => some x.switchGuard
  | 20 => some x.askTimeout
  | 21 => some x.askBackoff
  | 22 => some x.acqTimeout
  | 23 => some x.pilotInterval
  | 24 => some x.atpcMode.code
  | 25 => some x.fixedAtten
  | 26 => some x.attenMax
  | 27 => some x.rslLow
  | 28 => some x.rslHigh
  | 29 => some x.powerInterval
  | 30 => some x.lockCount
  | 31 => some x.badLimit
  | 32 => some x.resyncLimit
  | 33 => some x.recordTimeout
  | 34 => some x.sesPercent
  | 35 => some x.unavailRun
  | _ => none

/-- The setting with the given id takes the value `v`, which is in its range. -/
def Settings.put (x : Settings) (id : Nat) (v : Int) : Settings :=
  match id with
  | 1 => { x with divMode := divModeOf v }
  | 2 => { x with stressWeight := v.toNat }
  | 3 => { x with smoothDown := v.toNat }
  | 4 => { x with smoothUp := v.toNat }
  | 5 => { x with horizon := v.toNat }
  | 6 => { x with holdLimit := v.toNat }
  | 7 => { x with clearSky := v.toNat }
  | 8 => { x with fadeEnter := v.toNat }
  | 9 => { x with fadeExit := v.toNat }
  | 10 => { x with fadePersist := v.toNat }
  | 11 => { x with fadeLimit := v.toNat }
  | 12 => { x with stressSelective := v.toNat }
  | 13 => { x with urgentMargin := v.toNat }
  | 14 => { x with downDwell := v.toNat }
  | 15 => { x with upDwell := v.toNat }
  | 16 => { x with upHoldoff := v.toNat }
  | 17 => { x with errorOverride := v == 1 }
  | 18 => { x with switchLead := v.toNat }
  | 19 => { x with switchGuard := v.toNat }
  | 20 => { x with askTimeout := v.toNat }
  | 21 => { x with askBackoff := v.toNat }
  | 22 => { x with acqTimeout := v.toNat }
  | 23 => { x with pilotInterval := v.toNat }
  | 24 => { x with atpcMode := if v = 1 then .fixed else .auto }
  | 25 => { x with fixedAtten := v.toNat }
  | 26 => { x with attenMax := v.toNat }
  | 27 => { x with rslLow := v }
  | 28 => { x with rslHigh := v }
  | 29 => { x with powerInterval := v.toNat }
  | 30 => { x with lockCount := v.toNat }
  | 31 => { x with badLimit := v.toNat }
  | 32 => { x with resyncLimit := v.toNat }
  | 33 => { x with recordTimeout := v.toNat }
  | 34 => { x with sesPercent := v.toNat }
  | 35 => { x with unavailRun := v.toNat }
  | _ => x

/-- R176: what values a setting has. -/
inductive SettingKind where
  | enumeration (codes : Int)
  | numeric (lo hi : Int)
  deriving DecidableEq, Repr

/-- R176: the table of ranges and codes; absent outside 1..35. -/
def settingKind (id : Nat) : Option SettingKind :=
  match id with
  | 1 => some (.enumeration 4)
  | 2 => some (.numeric 0 63)
  | 3 => some (.numeric 0 6)
  | 4 => some (.numeric 0 6)
  | 5 => some (.numeric 0 64)
  | 6 => some (.numeric 1 16)
  | 7 => some (.numeric 0 500)
  | 8 => some (.numeric 10 400)
  | 9 => some (.numeric 0 390)
  | 10 => some (.numeric 1 15)
  | 11 => some (.numeric 256 65535)
  | 12 => some (.numeric 0 255)
  | 13 => some (.numeric 0 100)
  | 14 => some (.numeric 1 15)
  | 15 => some (.numeric 1 4095)
  | 16 => some (.numeric 0 65535)
  | 17 => some (.enumeration 2)
  | 18 => some (.numeric 2 15)
  | 19 => some (.numeric 1 15)
  | 20 => some (.numeric 8 255)
  | 21 => some (.numeric 4 4095)
  | 22 => some (.numeric 100 60000)
  | 23 => some (.numeric 0 65535)
  | 24 => some (.enumeration 2)
  | 25 => some (.numeric 0 31)
  | 26 => some (.numeric 0 31)
  | 27 => some (.numeric (-400) (-40))
  | 28 => some (.numeric (-400) (-40))
  | 29 => some (.numeric 1 255)
  | 30 => some (.numeric 4 64)
  | 31 => some (.numeric 1 32)
  | 32 => some (.numeric 8 255)
  | 33 => some (.numeric 1 255)
  | 34 => some (.numeric 1 100)
  | 35 => some (.numeric 2 30)
  | _ => none

/-- R176: a numeric value clamped to its range; a pilot_interval of 1..99 is clamped to 100. -/
def clampSetting (id : Nat) (lo hi v : Int) : Int :=
  let c := clampInt lo hi v
  if id = 23 ∧ 1 ≤ c ∧ c ≤ 99 then 100 else c

/-- R124: the largest backoff of any enabled row of a table. -/
def largestBackoff (t : Table) : Nat :=
  t.toList.foldl (fun m row => if row.enabled then max m row.backoff else m) 0

/-- R55, R124, R134, R176: the cross-setting check of a clamped value. -/
def State.crossCheck (s : State) (id : Nat) (v : Int) : Bool :=
  match id with
  | 8 => decide ((s.settings.fadeExit : Int) < v)
  | 9 => decide (v < s.settings.fadeEnter)
  | 26 => decide ((largestBackoff s.table.active : Int) ≤ v)
  | 27 => decide (v < s.settings.rslHigh)
  | 28 => decide (s.settings.rslLow < v)
  | _ => true

/-- R176: a setting takes a value. A SET of pilot_interval answered OK also marks the pilot timer for the load
that the next slot makes (R117). -/
def State.putSetting (s : State) (id : Nat) (v : Int) : State :=
  { s with settings := s.settings.put id v,
           tx := { s.tx with pilotReload := s.tx.pilotReload || id == 23 } }

/-- R176: a SET with a setting id and a value: its status, and the state after it. -/
def State.setValue (s : State) (id : Nat) (v : Int) : Status × State :=
  match settingKind id with
  | none => (.outOfRange, s)
  | some (.enumeration codes) =>
    if 0 ≤ v ∧ v < codes then (.ok, s.putSetting id v) else (.outOfRange, s)
  | some (.numeric lo hi) =>
    let c := clampSetting id lo hi v
    if s.crossCheck id c then (.ok, s.putSetting id c) else (.order, s)

/-- R173: a SET or GET whose id lies in 1..35 carries the id and the value in force after the request; any other
carries nothing. -/
def State.settingPayload (s : State) (id : Byte) : List Byte :=
  match s.settings.get id.toNat with
  | some v => id :: leInt32 v
  | none => []

end Sys2Proof.Machine
end

