-- ==== Sys2Proof/Machine/Ops.lean ====
section
/-! DEFINITION. The operations that several commands share: the RESET line's hold, the receiver, taking a request
and queuing its reply, the three resets, and one millisecond of the reference clock. -/

namespace Sys2Proof.Machine

/-- R147: while the RESET line is asserted the controller is held: nothing is taken and nothing is sent. -/
def State.unlessHeld (s : State) (f : State → State) : State :=
  if s.resetLine.asserted then s else f s

/-! ## The receiver (R172, R173) -/

/-- R173: a complete message goes to the input buffer; with both places occupied it is discarded and HOST_OVERRUN
is raised. A RESTART that has been taken occupies no place (DESIGN CHOICE, assumption 37). -/
def State.complete (s : State) (m : Message) : State :=
  if s.host.inBuf.length < Config.inBufferCapacity then
    { s with host := { s.host with inBuf := s.host.inBuf ++ [m] } }
  else s.raise .hostOverrun

/-- R172: one byte on the host line. -/
def State.receive (s : State) (b : Byte) : State :=
  let r := receiveByte s.host.collecting b
  let s1 := { s with host := { s.host with collecting := r.collecting, quiet := 0 } }
  match r.complete with
  | some m => s1.complete m
  | none => s1

/-- R172: bytes on the host line, in order. -/
def State.receiveAll (s : State) (bs : List Byte) : State := bs.foldl State.receive s

/-- R172: the message being collected is discarded, and the receiver returns to hunting. -/
def State.discardCollected (s : State) : State :=
  { s with host := { s.host with collecting := none, quiet := 0 } }

/-! ## Taking a request (R173) -/

/-- R173, R181: a request can be taken: one waits, the output queue has a free place, and no RESTART is waiting
for its reply to be sent. -/
def State.canTake (s : State) : Bool :=
  !s.host.restarting && decide (1 ≤ s.host.freePlaces) && !s.host.inBuf.isEmpty

/-- What serving a request gives: the status, the payload after it, and the state. -/
structure Served where
  status  : Status
  payload : List Byte
  state   : State
  deriving DecidableEq, Repr

/-- R173: the reply to the request `m`: the kind of the request plus 0x80, its tag, and the status first. -/
def replyTo (m : Message) (st : Status) (payload : List Byte) : Message :=
  { kind := m.kind + 0x80#8, tag := m.tag, payload := st.code :: payload }

/-- A reply queued. -/
def State.queueReply (s : State) (m : Message) : State := { s with host := s.host.reply m }

/-- The oldest request leaves the input buffer. -/
def State.dropRequest (s : State) : State :=
  { s with host := { s.host with inBuf := s.host.inBuf.drop 1 } }

/-- R173: the request `m`, at the front of the input buffer, is examined and done as `f` says, and its reply is
queued. Its place in the input buffer is free from then on; for a RESTART, which may count as being served until it
takes effect, that is a DESIGN CHOICE (assumption 37). -/
def State.answer (s : State) (m : Message) (f : State → Served) : State :=
  let r := f s.dropRequest
  r.state.queueReply (replyTo m r.status r.payload)

/-- The step in which a request of kind `kind`, whose payload has `len` bytes (R182), is taken. A payload of
another length is answered BAD_LENGTH. Where no request can be taken, or the one at the front is of
another kind, the step does not occur. -/
def State.take (s : State) (kind : Byte) (len : Nat) (f : List Byte → State → Served) : State :=
  match s.host.inBuf with
  | [] => s
  | m :: _ =>
    if s.canTake ∧ m.kind = kind then
      s.answer m (fun s' =>
        if m.payload.length = len then f m.payload s' else { status := .badLength, payload := [], state := s' })
    else s

/-- A refusal: the status alone, and nothing changed. -/
def refusal (st : Status) (s : State) : Served := { status := st, payload := [], state := s }

/-- A reply of OK with a payload, and nothing changed. -/
def reading (payload : List Byte) (s : State) : Served := { status := .ok, payload := payload, state := s }

/-- A reply of OK with no payload, after the change made. -/
def done (s : State) : Served := { status := .ok, payload := [], state := s }

/-- R182: the request kinds. -/
def requestKinds : List Byte :=
  [0x01#8, 0x02#8, 0x03#8, 0x04#8, 0x05#8, 0x06#8, 0x07#8, 0x08#8, 0x09#8, 0x0A#8, 0x0B#8, 0x0C#8,
   0x0D#8, 0x0E#8, 0x0F#8, 0x10#8, 0x11#8, 0x12#8, 0x13#8]

/-! ## Resets -/

/-- R172, R175: the rate code of the straps, 0 for 115200 up to 3 for 921600. -/
def rateCodeOf (spd1 spd0 : Bool) : Nat := (if spd1 then 2 else 0) + (if spd0 then 1 else 0)

/-- R2, R35, R51, R77, R97, R103, R106, R122, R136, R151, R176, R177: every block takes its power-on or
reset-line values; the Performance Monitor is `m` (R171). Nothing is queued yet. -/
def State.resetBlocks (s : State) (cause : ResetCause) (m : Monitor) (rateCode : Nat) : State :=
  { s with
    table := .initial, est := .initial, fade := .initial, decision := .initial, hop := .initial
    tx := .initial Settings.default.pilotInterval
    power := .initial Settings.default.attenMax
    link := .initial cause
    intake := .initial
    monitor := m
    host := .initial rateCode
    settings := .default }

/-- R147, R174: the STARTED notice is queued into the queue its reset has just emptied. -/
def State.queueStarted (s : State) (c : ResetCause) : State :=
  { s with host := { s.host with outQueue := [startedNotice c] } }

/-- R148, R181: the RESTART takes effect: R2, R12, R35, R50, R77, R97, R103, R106, R122, R136, R151, R172, R174,
R177, R180. The settings stay, and with them the mode that the last slot in RUN took (assumption 35). -/
def State.restartNow (s : State) : State :=
  { s with
    table := { s.table.clearMarks with pendingSwap := none }
    est := s.est.enterSync
    fade := s.fade.linkEvent s.settings .restart
    decision := .initial
    hop := .initial
    tx := .initial s.settings.pilotInterval
    power := { PowerControl.initial s.settings.attenMax with slotMode := s.power.slotMode }
    link := .initial .restart
    intake := s.intake.set .idle
    host := { HostLink.initial s.host.rateCode with
      enabled := s.host.enabled, outQueue := [startedNotice .restart] } }.markDegraded

/-- R181, R182: a message is the OK reply of a RESTART: kind 0x13 plus 0x80, status OK alone. -/
def isRestartReply (m : Message) : Bool := m.kind == 0x93#8 && m.payload == [0#8]

/-- R181: the RESTART reply is the message being sent. -/
def State.restartDue (s : State) : Bool :=
  s.host.restarting && s.host.outQueue.head?.elim false isRestartReply

/-! ## One millisecond of the reference clock (assumption 5) -/

/-- R158: the silence timer, one millisecond on. -/
def State.tickSilence (s : State) : State :=
  match s.intake.silence with
  | none => s
  | some n =>
    if n ≤ 1 then s.expireSilence
    else { s with intake := { s.intake with silence := some (n - 1) } }

/-- R142: the acquisition timer, one millisecond on. -/
def State.tickAcq (s : State) : State :=
  match s.link.acqTimer with
  | none => s
  | some n =>
    if n ≤ 1 then s.expireAcqTimer
    else { s with link := { s.link with acqTimer := some (n - 1) } }

/-- R172: the inter-byte time of a message being collected, one millisecond on. -/
def State.tickReceiver (s : State) : State :=
  if s.host.collecting.isNone then s
  else if Config.interByteLimit ≤ s.host.quiet then s.discardCollected
  else { s with host := { s.host with quiet := s.host.quiet + 1 } }

/-- R164: the second in progress, one millisecond on. -/
def State.tickSecond (s : State) : State :=
  if 999 ≤ s.monitor.millis then s.endSecond
  else { s with monitor := { s.monitor with millis := s.monitor.millis + 1 } }

/-- One millisecond of the reference clock passes with no command waiting. The acquisition timer comes before the
silence timer, so that a load made by link loss in this millisecond does not fall in it. -/
def State.tick (s : State) : State :=
  s.unlessHeld fun s => s.tickAcq.tickSilence.tickReceiver.tickSecond

end Sys2Proof.Machine
end

