-- ==== Sys2Proof/Machine/Events.lean ====
section
/-! DEFINITION. The meanings of the rows that are no request: power and the RESET line, the host line, the modem
link, timers and the second. A row whose event cannot occur in a state leaves the state as it stands
(assumption 4). -/

namespace Sys2Proof.Machine

/-! ## Power and the RESET line -/

/-- POWER_ON (R147, R171, R172): every block takes its power-on values and the straps are read. With the RESET
line released the controller starts and queues STARTED; with it asserted the controller is held, and
starts at the release. -/
def execPowerOn (spd1 spd0 resetAsserted : Bool) (s : State) : Host.Outcome State Fault Refusal :=
  let s1 := { s.resetBlocks .powerOn (.start 0 []) (rateCodeOf spd1 spd0) with
    resetLine := { asserted := resetAsserted, coldStart := resetAsserted } }
  .next (if resetAsserted then s1 else s1.queueStarted .powerOn)

/-- R2, R30, R147, R151, R171, R177: assertion of the RESET line, on the state. The other blocks take their
values at the release. -/
def State.holdReset (s : State) : State :=
  { s with
    resetLine := { s.resetLine with asserted := true }
    table := .initial
    est := { s.est with offMain := 0, offSpace := 0 }
    intake := { s.intake with sending := none, waiting := none }
    monitor := s.monitor.resetLine
    host := s.host.setFlags 0#22 s.host.enabled }

/-- RESET_LINE_ASSERT (R147, R151, R171). -/
def execResetLineAssert (s : State) : Host.Outcome State Fault Refusal :=
  .next (s.unlessHeld State.holdReset)

/-- R147: the cause of the start at a release of the RESET line. -/
def ResetLine.cause (l : ResetLine) : ResetCause := if l.coldStart then .powerOn else .resetLine

/-- R171: the monitor at a release of the RESET line: its first second begins then. What the assertion left is the bin
number and the closed ring. -/
def Monitor.release (m : Monitor) : Monitor := .start m.current.number m.closed

/-- RESET_LINE_RELEASE (R147, R171, R172). -/
def execResetLineRelease (spd1 spd0 : Bool) (s : State) : Host.Outcome State Fault Refusal :=
  .next <|
    if s.resetLine.asserted then
      { s.resetBlocks s.resetLine.cause s.monitor.release (rateCodeOf spd1 spd0) with
        resetLine := { asserted := false, coldStart := false } }.queueStarted s.resetLine.cause
    else s

/-! ## The host line -/

/-- HOST_MESSAGE (R172, R173). -/
def execHostMessage (bytes : List Byte) (s : State) : Host.Outcome State Fault Refusal :=
  .next <| s.unlessHeld (·.receiveAll bytes)

/-- INTER_BYTE_TIMEOUT (R172). -/
def execInterByteTimeout (s : State) : Host.Outcome State Fault Refusal :=
  .next <| s.unlessHeld State.discardCollected

/-- MESSAGE_SENT (R174). When the message sent is the RESTART reply, the restart takes effect at that moment
(R181). -/
def execMessageSent (s : State) : Host.Outcome State Fault Refusal :=
  .next <| s.unlessHeld fun s =>
    if s.restartDue then s.restartNow
    else { s with host := { s.host with outQueue := s.host.outQueue.drop 1 } }

/-- RESTART_TAKES_EFFECT (R148, R181): the message being sent is the RESTART reply, and its last byte is sent. -/
def execRestartTakesEffect (s : State) : Host.Outcome State Fault Refusal :=
  .next <| s.unlessHeld fun s => if s.restartDue then s.restartNow else s

/-- WATCH_REPORT (R180): the oldest triggered report is assembled. It may be assembled within RX_METRICS and TX_SLOT
too (`EntryProgress.report`, `State.reportEarlier`, `State.reportInSlot`: assumption 30); this row
assembles one that still waits when they are over. -/
def execWatchReport (s : State) : Host.Outcome State Fault Refusal :=
  .next <| s.unlessHeld fun s =>
    match s.host.watch.triggered with
    | [] => s
    | t :: _ => s.assembleReport t

/-! ## The modem link -/

/-- RX_METRICS (R150 to R160): the record is the code byte 0xD1 and the bytes given. -/
def execRxMetrics (rest : List Byte) (s : State) : Host.Outcome State Fault Refusal :=
  .next <| s.unlessHeld (·.takeMetrics (0xD1#8 :: rest))

/-- UNKNOWN_RECORD (R150): discarded, with no effect. -/
def execUnknownRecord (_bytes : List Byte) (s : State) : Host.Outcome State Fault Refusal := .next s

/-- TX_SLOT (R107, R161): the record is the code byte 0xD2 and the bytes given. -/
def execTxSlot (rest : List Byte) (txlim : Bool) (s : State) : Host.Outcome State Fault Refusal :=
  .next <| s.unlessHeld (·.takeSlot (0xD2#8 :: rest) txlim)

/-- DESCRIPTOR_SENT (R161). -/
def execDescriptorSent (txlim : Bool) (s : State) : Host.Outcome State Fault Refusal :=
  .next <| s.unlessHeld (·.finishDescriptor txlim)

/-! ## Timers and counts that reach their end -/

/-- R9: at the next entry event the attempt of R8 would fail and the entry count of the pending swap would reach
256. -/
def State.swapExpires (s : State) : Bool :=
  s.table.pendingSwap.elim false (fun n => decide (Config.swapEntryLimit ≤ n + 1)) && !s.swapReady

/-- SWAP_TIMEOUT (R9): the entry count of a pending swap reaches 256, and the swap is dropped. The attempt of R8 comes
first: a swap that would be taken does not reach the count. With no swap pending, with one that would be
taken, or with a count that does not reach 256 next, the row's event does not occur (assumption 4). -/
def execSwapTimeout (s : State) : Host.Outcome State Fault Refusal :=
  .next <| s.unlessHeld fun s => if s.swapExpires then s.dropSwap else s

/-- ANSWER_TIMER_EXPIRY (R92), in ASKING. -/
def execAnswerTimerExpiry (s : State) : Host.Outcome State Fault Refusal :=
  .next <| s.unlessHeld fun s => if s.hop.lane.state = .asking then s.expireAnswerTimer else s

/-- SWITCH_MISSED (R93), in SWITCHING. -/
def execSwitchMissed (s : State) : Host.Outcome State Fault Refusal :=
  .next <| s.unlessHeld fun s => if s.hop.lane.state = .switching then s.missSwitch else s

/-- BACKOFF_EXPIRY (R96), in BACKOFF. -/
def execBackoffExpiry (s : State) : Host.Outcome State Fault Refusal :=
  .next <| s.unlessHeld fun s => if s.hop.lane.state = .backoff then s.endBackoff else s

/-- SILENCE_TIMER_EXPIRY (R158), of a running timer. -/
def execSilenceTimerExpiry (s : State) : Host.Outcome State Fault Refusal :=
  .next <| s.unlessHeld fun s => if s.intake.silence.isSome then s.expireSilence else s

/-- ACQ_TIMEOUT (R142), of a running timer, in SYNC or CAPS. -/
def execAcqTimeout (s : State) : Host.Outcome State Fault Refusal :=
  .next <| s.unlessHeld fun s =>
    if s.link.acqTimer.isSome ∧ (s.link.state = .sync ∨ s.link.state = .caps) then s.expireAcqTimer
    else s

/-- PILOT_TIMER_EXPIRY (R117), of a running timer, in RUN. -/
def execPilotTimerExpiry (s : State) : Host.Outcome State Fault Refusal :=
  .next <| s.unlessHeld fun s =>
    if s.link.state = .run ∧ s.tx.pilotTimer.isSome then s.expirePilotTimer else s

/-- SECOND_END (R165 to R168). -/
def execSecondEnd (s : State) : Host.Outcome State Fault Refusal :=
  .next <| s.unlessHeld State.endSecond

end Sys2Proof.Machine
end

