-- ==== Sys2Proof/Machine/Requests.lean ====
section
/-! DEFINITION. The meanings of the rows that take a host request: UNKNOWN_KIND and GET_INFO to RESTART. Each
`exec…` is its row's meaning; each `serve…` is what the request does once its payload length is good, as a
function of the payload and the state without the request. -/

namespace Sys2Proof.Machine

/-- UNKNOWN_KIND (R173). -/
def execUnknownKind (s : State) : Host.Outcome State Fault Refusal :=
  .next <| s.unlessHeld fun s =>
    match s.host.inBuf with
    | [] => s
    | m :: _ =>
      if s.canTake ∧ m.kind ∉ requestKinds then s.answer m (refusal .unknownKind) else s

/-- R175: the payload of GET_INFO's reply. -/
def State.infoBytes (s : State) : List Byte :=
  leNat16 Config.productCode ++ le8 Config.revision ++ le8 s.link.cause.code ++ le8 s.host.rateCode

/-- GET_INFO (R175). -/
def execGetInfo (s : State) : Host.Outcome State Fault Refusal :=
  .next <| s.unlessHeld (·.take 0x01#8 0 fun _ s => reading s.infoBytes s)

/-- R176: SET_SETTING with its payload. -/
def serveSetSetting (p : List Byte) (s : State) : Served :=
  let id := byteAt p 0
  let r := s.setValue id.toNat (doubleAt p 1).toInt
  { status := r.1, payload := r.2.settingPayload id, state := r.2 }

/-- SET_SETTING (R176). -/
def execSetSetting (s : State) : Host.Outcome State Fault Refusal :=
  .next <| s.unlessHeld (·.take 0x02#8 5 serveSetSetting)

/-- R176: GET_SETTING with its payload. -/
def serveGetSetting (p : List Byte) (s : State) : Served :=
  match s.settings.get (byteAt p 0).toNat with
  | some _ => reading (s.settingPayload (byteAt p 0)) s
  | none => refusal .outOfRange s

/-- GET_SETTING (R176). -/
def execGetSetting (s : State) : Host.Outcome State Fault Refusal :=
  .next <| s.unlessHeld (·.take 0x03#8 1 serveGetSetting)

/-- R3: the checks on a row's own fields. -/
def rowInRange (r : ProfileRow) : Bool :=
  decide (r.tDown ≤ 450) && decide (r.tUp ≤ 450) && decide (r.backoff ≤ 20) &&
    decide (r.capacity ≤ 1023)

/-- R3: the row that a WRITE_PROFILE payload carries, if its modulation and code rate are values of their
enumerations. -/
def rowOf (p : List Byte) : Option ProfileRow :=
  match modulationOf (byteAt p 2).toNat, codeRateOf (byteAt p 3).toNat with
  | some m, some c =>
    some { enabled := boolOf (byteAt p 1), modulation := m, codeRate := c,
           capacity := (wordAt p 4).toNat, tDown := (wordAt p 6).toNat, tUp := (wordAt p 8).toNat,
           backoff := (byteAt p 10).toNat }
  | _, _ => none

/-- R3: a row of the shadow table is written. -/
def State.writeShadow (s : State) (i : Profile) (r : ProfileRow) : State :=
  { s with table := { s.table with shadow := s.table.shadow.set i r } }

/-- R3: WRITE_PROFILE with its payload; the checks in the order of the rule. -/
def serveWriteProfile (p : List Byte) (s : State) : Served :=
  match profileOf (byteAt p 0), rowOf p with
  | some i, some r =>
    if !rowInRange r then refusal .outOfRange s
    else if r.enabled ∧ r.capacity = 0 then refusal .outOfRange s
    else if s.table.pendingSwap.isSome then refusal .busy s
    else done (s.writeShadow i r)
  | _, _ => refusal .outOfRange s

/-- WRITE_PROFILE (R3). -/
def execWriteProfile (s : State) : Host.Outcome State Fault Refusal :=
  .next <| s.unlessHeld (·.take 0x04#8 11 serveWriteProfile)

/-- R4: READ_PROFILE with its payload; table 0 is ACTIVE and 1 is SHADOW. -/
def serveReadProfile (p : List Byte) (s : State) : Served :=
  match (byteAt p 0).toNat, profileOf (byteAt p 1) with
  | 0, some i => reading (s.table.active[i]).bytes s
  | 1, some i => reading (s.table.shadow[i]).bytes s
  | _, _ => refusal .outOfRange s

/-- READ_PROFILE (R4). -/
def execReadProfile (s : State) : Host.Outcome State Fault Refusal :=
  .next <| s.unlessHeld (·.take 0x05#8 2 serveReadProfile)

/-- R6, R7: SWAP_TABLE. -/
def serveSwapTable (s : State) : Served :=
  match validate s.table.shadow s.settings.attenMax with
  | some (row, test) =>
    { status := .tableInconsistent, payload := le8 row ++ le8 test.code, state := s }
  | none =>
    if s.link.state = .run then
      if s.shadowInUse then refusal .inUse s
      else if s.table.pendingSwap.isSome then refusal .busy s
      else { status := .accepted, payload := [],
             state := { s with table := { s.table with pendingSwap := some 0 } } }
    else if s.table.pendingSwap.isSome then refusal .busy s
    else done s.installSwap

/-- SWAP_TABLE (R6, R7). -/
def execSwapTable (s : State) : Host.Outcome State Fault Refusal :=
  .next <| s.unlessHeld (·.take 0x06#8 0 fun _ s => serveSwapTable s)

/-- R137: LINK_START. -/
def serveLinkStart (s : State) : Served :=
  if s.link.state = .config then done s.startLink else refusal .wrongState s

/-- LINK_START (R137). -/
def execLinkStart (s : State) : Host.Outcome State Fault Refusal :=
  .next <| s.unlessHeld (·.take 0x07#8 0 fun _ s => serveLinkStart s)

/-- R138: LINK_STOP. -/
def serveLinkStop (s : State) : Served :=
  if s.link.state = .config then refusal .wrongState s else done s.stopLink

/-- LINK_STOP (R138). -/
def execLinkStop (s : State) : Host.Outcome State Fault Refusal :=
  .next <| s.unlessHeld (·.take 0x08#8 0 fun _ s => serveLinkStop s)

/-- R72: the force mode of a FORCE payload; AUTO ignores the profile. -/
def forceOf (mode profile : Byte) : Option ForceMode :=
  match mode.toNat with
  | 0 => some .auto
  | 1 => (profileOf profile).map ForceMode.ceiling
  | 2 => (profileOf profile).map ForceMode.pinned
  | _ => none

/-- R72: whether the profile of a PINNED is in the set it is checked against: N in RUN, the own mask
otherwise. -/
def State.mayForce (s : State) (m : ForceMode) : Bool :=
  match m with
  | .pinned p => inSet (if s.link.state = .run then s.table.negotiated else s.table.ownMask) p
  | .auto | .ceiling _ => true

/-- R72: FORCE with its payload. -/
def serveForce (p : List Byte) (s : State) : Served :=
  match forceOf (byteAt p 0) (byteAt p 1) with
  | none => refusal .outOfRange s
  | some m =>
    if s.mayForce m then done { s with decision := s.decision.setForce m } else refusal .notEnabled s

/-- FORCE (R72). -/
def execForce (s : State) : Host.Outcome State Fault Refusal :=
  .next <| s.unlessHeld (·.take 0x09#8 2 serveForce)

/-- R120: PILOT_NOW. -/
def servePilotNow (s : State) : Served :=
  if s.link.state = .run then done s.addPilot else refusal .wrongState s

/-- PILOT_NOW (R120). -/
def execPilotNow (s : State) : Host.Outcome State Fault Refusal :=
  .next <| s.unlessHeld (·.take 0x0A#8 0 fun _ s => servePilotNow s)

/-- R179: READ_STATUS with its payload; bits 6 and 7 of the mask are ignored. -/
def serveReadStatus (p : List Byte) (s : State) : Served :=
  let mask := (byteAt p 0).setWidth 6
  if mask = 0#6 then refusal .outOfRange s else reading (leBits mask ++ s.groups mask) s

/-- READ_STATUS (R179). -/
def execReadStatus (s : State) : Host.Outcome State Fault Refusal :=
  .next <| s.unlessHeld (·.take 0x0B#8 1 serveReadStatus)

/-- R34: the entries whose age lies from `start` up to the smaller of `start + count − 1` and the oldest, oldest
first. -/
def historySpan (ring : List HistoryEntry) (start count : Nat) : List HistoryEntry :=
  ((ring.drop start).take count).reverse

/-- R34: READ_HISTORY with its payload. -/
def serveReadHistory (p : List Byte) (s : State) : Served :=
  let start := (wordAt p 0).toNat
  let count := (byteAt p 2).toNat
  if 511 < start ∨ count < 1 ∨ 24 < count then refusal .outOfRange s
  else
    let span := historySpan s.est.ring start count
    reading (leNat16 s.est.ring.length ++ le8 span.length ++
      (span.map HistoryEntry.bytes).flatten) s

/-- READ_HISTORY (R34). -/
def execReadHistory (s : State) : Host.Outcome State Fault Refusal :=
  .next <| s.unlessHeld (·.take 0x0C#8 3 serveReadHistory)

/-- R54: READ_FADES with its payload: the oldest records are returned and removed. -/
def serveReadFades (p : List Byte) (s : State) : Served :=
  let max := (byteAt p 0).toNat
  if max < 1 ∨ 6 < max then refusal .outOfRange s
  else
    let taken := s.fade.log.take max
    { status := .ok
      payload := le8 s.fade.log.length ++ le8 taken.length ++ (taken.map FadeRecord.bytes).flatten
      state := { s with fade := { s.fade with log := s.fade.log.drop max } } }

/-- READ_FADES (R54). -/
def execReadFades (s : State) : Host.Outcome State Fault Refusal :=
  .next <| s.unlessHeld (·.take 0x0D#8 1 serveReadFades)

/-- R169: the bin a READ_BIN asks for. -/
def Monitor.select (m : Monitor) (selector age : Nat) : Option Bin :=
  match selector with
  | 0 => some m.current
  | 1 => m.earlier
  | _ => m.closed.reverse[age]?

/-- R169: READ_BIN with its payload; selector 0 is CURRENT, 1 EARLIER and 2 CLOSED. -/
def serveReadBin (p : List Byte) (s : State) : Served :=
  let selector := (byteAt p 0).toNat
  let age := (byteAt p 1).toNat
  if 2 < selector ∨ (selector = 2 ∧ 31 < age) then refusal .outOfRange s
  else
    reading (le8 s.monitor.availability.code ++ le8 s.monitor.window.length ++
      le8 (if s.monitor.earlier.isSome then 2 else 1) ++ le8 s.monitor.closed.length ++
      lePart ((s.monitor.select selector age).map Bin.bytes)) s

/-- READ_BIN (R169). -/
def execReadBin (s : State) : Host.Outcome State Fault Refusal :=
  .next <| s.unlessHeld (·.take 0x0E#8 2 serveReadBin)

/-- R177: EVENT_ENABLE with its payload: the set carried replaces the enables. -/
def serveEventEnable (p : List Byte) (s : State) : Served :=
  done { s with host := s.host.setFlags s.host.raised (flagsAt p 0) }

/-- EVENT_ENABLE (R177). -/
def execEventEnable (s : State) : Host.Outcome State Fault Refusal :=
  .next <| s.unlessHeld (·.take 0x0F#8 4 serveEventEnable)

/-- R177: CLEAR_EVENTS with its payload: each raised flag in the set becomes clear. -/
def serveClearEvents (p : List Byte) (s : State) : Served :=
  done { s with host := s.host.setFlags (s.host.raised &&& ~~~(flagsAt p 0)) s.host.enabled }

/-- CLEAR_EVENTS (R177). -/
def execClearEvents (s : State) : Host.Outcome State Fault Refusal :=
  .next <| s.unlessHeld (·.take 0x10#8 4 serveClearEvents)

/-- READ_EVENTS (R177). -/
def execReadEvents (s : State) : Host.Outcome State Fault Refusal :=
  .next <| s.unlessHeld (·.take 0x11#8 0 fun _ s =>
    reading (flagBytes s.host.raised ++ flagBytes s.host.enabled) s)

/-- R180: a WATCH that is refused. -/
def watchRefused (mode : WatchMode) (mask : BitVec 6) (period : Nat) : Bool :=
  (mode != .off && mask == 0#6) || (mode == .periodic && decide (period < 16))

/-- R180: a WATCH taken: the mode, mask and period are replaced, the entry counter becomes 0, and a report
triggered and not yet assembled is discarded. -/
def WatchState.set (w : WatchState) (mode : WatchMode) (mask : BitVec 6) (period : Nat) : WatchState :=
  { w with mode := mode, mask := mask, period := period, counter := 0, triggered := [] }

/-- R180: WATCH with its payload. A WATCH that is refused leaves a triggered report waiting; the manual says that the
request discards it "if the request is taken first", and does not say whether a refused one does
(assumption 32). -/
def serveWatch (p : List Byte) (s : State) : Served :=
  let mask := (byteAt p 1).setWidth 6
  let period := (wordAt p 2).toNat
  match watchModeOf (byteAt p 0).toNat with
  | none => refusal .outOfRange s
  | some mode =>
    if watchRefused mode mask period then refusal .outOfRange s
    else done { s with host := { s.host with watch := s.host.watch.set mode mask period } }

/-- WATCH (R180). -/
def execWatch (s : State) : Host.Outcome State Fault Refusal :=
  .next <| s.unlessHeld (·.take 0x12#8 4 serveWatch)

/-- R181: RESTART: from here on no further request is taken. Its place in the input buffer is free (assumption 37). -/
def serveRestart (s : State) : Served :=
  done { s with host := { s.host with restarting := true } }

/-- RESTART (R181). -/
def execRestart (s : State) : Host.Outcome State Fault Refusal :=
  .next <| s.unlessHeld (·.take 0x13#8 0 fun _ s => serveRestart s)

end Sys2Proof.Machine
end

