-- ==== Sys2Proof/Machine/Dispatch.lean ====
section
/-! DEFINITION. One arm for each command. -/

namespace Sys2Proof.Machine

def exec (i : Instr) (s : State) : Host.Outcome State Fault Refusal :=
  match i with
  | .powerOn a b c => Sys2Proof.Machine.execPowerOn a b c s
  | .resetLineAssert => Sys2Proof.Machine.execResetLineAssert s
  | .resetLineRelease a b => Sys2Proof.Machine.execResetLineRelease a b s
  | .hostMessage bytes => Sys2Proof.Machine.execHostMessage bytes s
  | .interByteTimeout => Sys2Proof.Machine.execInterByteTimeout s
  | .messageSent => Sys2Proof.Machine.execMessageSent s
  | .unknownKind => Sys2Proof.Machine.execUnknownKind s
  | .getInfo => Sys2Proof.Machine.execGetInfo s
  | .setSetting => Sys2Proof.Machine.execSetSetting s
  | .getSetting => Sys2Proof.Machine.execGetSetting s
  | .writeProfile => Sys2Proof.Machine.execWriteProfile s
  | .readProfile => Sys2Proof.Machine.execReadProfile s
  | .swapTable => Sys2Proof.Machine.execSwapTable s
  | .linkStart => Sys2Proof.Machine.execLinkStart s
  | .linkStop => Sys2Proof.Machine.execLinkStop s
  | .force => Sys2Proof.Machine.execForce s
  | .pilotNow => Sys2Proof.Machine.execPilotNow s
  | .readStatus => Sys2Proof.Machine.execReadStatus s
  | .readHistory => Sys2Proof.Machine.execReadHistory s
  | .readFades => Sys2Proof.Machine.execReadFades s
  | .readBin => Sys2Proof.Machine.execReadBin s
  | .eventEnable => Sys2Proof.Machine.execEventEnable s
  | .clearEvents => Sys2Proof.Machine.execClearEvents s
  | .readEvents => Sys2Proof.Machine.execReadEvents s
  | .watch => Sys2Proof.Machine.execWatch s
  | .restart => Sys2Proof.Machine.execRestart s
  | .restartTakesEffect => Sys2Proof.Machine.execRestartTakesEffect s
  | .watchReport => Sys2Proof.Machine.execWatchReport s
  | .rxMetrics rest => Sys2Proof.Machine.execRxMetrics rest s
  | .unknownRecord bytes => Sys2Proof.Machine.execUnknownRecord bytes s
  | .swapTimeout => Sys2Proof.Machine.execSwapTimeout s
  | .answerTimerExpiry => Sys2Proof.Machine.execAnswerTimerExpiry s
  | .switchMissed => Sys2Proof.Machine.execSwitchMissed s
  | .backoffExpiry => Sys2Proof.Machine.execBackoffExpiry s
  | .silenceTimerExpiry => Sys2Proof.Machine.execSilenceTimerExpiry s
  | .acqTimeout => Sys2Proof.Machine.execAcqTimeout s
  | .txSlot rest txlim => Sys2Proof.Machine.execTxSlot rest txlim s
  | .descriptorSent txlim => Sys2Proof.Machine.execDescriptorSent txlim s
  | .pilotTimerExpiry => Sys2Proof.Machine.execPilotTimerExpiry s
  | .secondEnd => Sys2Proof.Machine.execSecondEnd s

end Sys2Proof.Machine
end

