-- ==== Sys2Proof/Safety.lean ====
section
/-! DEFINITION. The terms in which claims are made: when a request can be taken, what a state looks like after a
reply or a raised flag, and the laws of the device that the manual names, each as a predicate of the
state. -/

namespace Sys2Proof.Machine

/-! ## When a command can act, and what it leaves -/

/-- R147: the RESET line is not asserted, so the controller is not held. -/
def State.Running (s : State) : Prop := s.resetLine.asserted = false

/-- R173, R181: the request `m` is the oldest in the input buffer and can be taken now. -/
structure State.Ready (s : State) (m : Message) : Prop where
  running : s.Running
  front   : s.host.inBuf.head? = some m
  room    : s.host.outQueue.length < 8
  serving : s.host.restarting = false

/-- R173: the reply to `m`: the kind of the request plus 0x80, its tag, and the status first. Nothing else changes. -/
def State.replied (s : State) (m : Message) (status : Byte) (payload : List Byte) : State :=
  { s with host := { s.host with outQueue := s.host.outQueue ++
      [{ kind := m.kind + 0x80#8, tag := m.tag, payload := status :: payload }] } }

/-- A request taken and answered with nothing changed but the two queues. -/
def State.answered (s : State) (m : Message) (status : Byte) (payload : List Byte) : State :=
  s.dropRequest.replied m status payload

/-- The rows that take one kind of request, each with its kind and the length of its payload (R182). -/
def requestRows : List (Instr × Byte × Nat) :=
  [(.getInfo, 0x01#8, 0), (.setSetting, 0x02#8, 5), (.getSetting, 0x03#8, 1), (.writeProfile, 0x04#8, 11),
   (.readProfile, 0x05#8, 2), (.swapTable, 0x06#8, 0), (.linkStart, 0x07#8, 0), (.linkStop, 0x08#8, 0),
   (.force, 0x09#8, 2), (.pilotNow, 0x0A#8, 0), (.readStatus, 0x0B#8, 1), (.readHistory, 0x0C#8, 3),
   (.readFades, 0x0D#8, 1), (.readBin, 0x0E#8, 2), (.eventEnable, 0x0F#8, 4), (.clearEvents, 0x10#8, 4),
   (.readEvents, 0x11#8, 0), (.watch, 0x12#8, 4), (.restart, 0x13#8, 0)]

/-- R176: the value a numeric SET asks for, clamped: to 100 for a pilot_interval of 1..99, and to the nearer end of
the range outside it. -/
def nearestValue (id : Nat) (lo hi v : Int) : Int :=
  if id = 23 ∧ 1 ≤ v ∧ v ≤ 99 then 100 else max lo (min hi v)

/-- R55, R124, R134, R176: the cross-setting checks a value has to pass. -/
structure State.Admits (s : State) (id : Nat) (v : Int) : Prop where
  fadeEnter : id = 8 → (s.settings.fadeExit : Int) < v
  fadeExit  : id = 9 → v < s.settings.fadeEnter
  attenMax  : id = 26 → ∀ p : Profile, (s.table.active[p]).enabled = true → ((s.table.active[p]).backoff : Int) ≤ v
  rslLow    : id = 27 → v < s.settings.rslHigh
  rslHigh   : id = 28 → s.settings.rslLow < v

/-- R165, R168: a bin with seconds of the pending window committed to it, each with its own class. -/
def Bin.withSeconds (b : Bin) (ps : List PendingSecond) : Bin :=
  { b with
    seconds := b.seconds + ps.length
    es := b.es + ps.countP (·.cls != .ok)
    ses := b.ses + ps.countP (·.cls == .ses) }

/-- The newest `n` of a list that has its oldest member first. -/
def newest {α : Type} (n : Nat) (l : List α) : List α := l.drop (l.length - n)

/-- R177: the flag `f` is raised. -/
def State.hasFlag (s : State) (f : EventFlag) : Bool := s.host.raised.getLsbD f.num

/-- R12, R36, R84, R97, R103, R133, R136, R164: an entry to SYNC, as the state it leaves: the far mask empty with its
marks cleared and N holding profile 0 alone, the Estimator's values unseeded and its ring empty, both lanes
and the far view at their initial values, no power request, and the second degraded. -/
def State.atSync (s : State) : State :=
  { s with
    link := { s.link with state := .sync }
    table := { s.table with farHalf0 := 1#8, mark0 := false, farHalf1 := 0#8, mark1 := false, negotiated := 1#16 }
    est := { s.est with s16 := none, hold := 0, starved := false, ring := [] }
    hop := { s.hop with lane := State.reset.hop.lane, answer := State.reset.hop.answer, far := State.reset.hop.far }
    power := { s.power with request := .none }
    monitor := { s.monitor with degraded := true } }

/-- R43, R44, R50: the exit run of `f` folded into the open record `o` gives `o'`. An empty run leaves the record as it
is. Where the stress count passes its limit part of the way through the fold, the sum is free between the
record's sum and that sum with the run's (assumption 3). -/
structure OpenFade.FoldsTo (o : OpenFade) (f : FadeTracker) (o' : OpenFade) : Prop where
  empty : f.exitLen = 0 → o' = o
  kept  : o' = { o with
    duration := o'.duration, minS := o'.minS, stressSum := o'.stressSum, stressCount := o'.stressCount }
  run   : f.exitLen ≠ 0 → o'.duration = min 4294967295 (o.duration + f.exitAcc.duration) ∧
    o'.minS = min o.minS f.exitAcc.lowS ∧ o'.stressCount = min 16777215 (o.stressCount + f.exitAcc.stressCount)
  sum   : f.exitLen ≠ 0 → o'.stressSum ≤ o.stressSum + f.exitAcc.stressSum ∧
    (o.stressSum ≤ 4278190080 → o.stressSum ≤ o'.stressSum) ∧
    (o.stressCount + f.exitAcc.stressCount ≤ 16777215 → o'.stressSum = o.stressSum + f.exitAcc.stressSum) ∧
    (16777215 ≤ o.stressCount → 0 < f.exitAcc.stressCount → o'.stressSum = o.stressSum)

/-- R49: `r` is the record `o` as it closes, with the settings as they stand. A stress count of 0 has the mean 0. -/
structure FadeRecord.Closes (r : FadeRecord) (o : OpenFade) (set : Settings) (why : EndedBy) : Prop where
  body     : r.body = o
  maxDepth : r.maxDepth = set.clearSky - o.minS
  kind     : r.kind = .selective ↔ set.stressSelective ≤ if o.stressCount = 0 then 0 else o.stressSum / o.stressCount
  endedBy  : r.endedBy = why

/-- R50: `r` is the record `o` closed by a link event: the exit run of `f` is folded in first. -/
def FadeRecord.ClosesOnLink (r : FadeRecord) (o : OpenFade) (f : FadeTracker) (set : Settings) (why : EndedBy) : Prop :=
  ∃ o', o.FoldsTo f o' ∧ r.Closes o' set why

/-- R146: link loss from RUN takes `s` to `t`: an entry to SYNC with the acquisition timer loaded and the watch counts
kept, the transmitter at profile 0 with nothing staged (R116), r at 0 (R85), the Decision Unit cleared but
for its force mode (R78), the power request and its counter cleared (R133), LINK_LOSS raised, and an open
fade closed as LINK_LOST, with FADE_END (R50), and FADE_LOG_DROP when the log was full (R53). -/
structure State.LosesLink (s t : State) : Prop where
  link     : t.link = { s.link with state := .sync, acqTimer := some s.settings.acqTimeout }
  table    : t.table = s.atSync.table
  est      : t.est = s.atSync.est
  decision : t.decision = { State.reset.decision with force := s.decision.force }
  hop      : t.hop = State.reset.hop
  tx       : t.tx = { s.tx with active := 0, staged := none }
  power    : t.power = { s.power with request := .none, rateCount := 0 }
  monitor  : t.monitor = { s.monitor with degraded := true }
  intake   : t.intake = s.intake
  settings : t.settings = s.settings
  queue    : t.pending = s.pending ∧ t.resetLine = s.resetLine
  flag     : t.hasFlag .linkLoss = true
  runs     : t.fade.openFade = none ∧ t.fade.entryLen = 0 ∧ t.fade.exitLen = 0 ∧ t.fade.idCounter = s.fade.idCounter
  noFade   : s.fade.openFade = none → t.fade.log = s.fade.log
  closed   : ∀ o, s.fade.openFade = some o → s.fade.log.length ≤ 32 → t.hasFlag .fadeEnd = true ∧
    (32 ≤ s.fade.log.length → t.hasFlag .fadeLogDrop = true) ∧
    (s.fade.log.length < 32 → t.hasFlag .fadeLogDrop = s.hasFlag .fadeLogDrop) ∧ t.fade.longMark = false ∧
    ∃ r, t.fade.log = newest 32 (s.fade.log ++ [r]) ∧ r.ClosesOnLink o s.fade s.settings .linkLost

/-! ## Host link (R147, R161, R173, R174, R178) -/

/-- ATTN is asserted exactly when some flag is both raised and enabled (R178). While the RESET line is asserted every
flag is clear, ATTN is deasserted (R178), and no slot is in hand (R151, R161). The input buffer holds at
most two messages (R173), the output queue at most eight (R174), and a slot waits only while a descriptor
is being returned (R151). -/
structure State.HostLaw (s : State) : Prop where
  attn   : s.host.attn = true ↔ ∃ f : EventFlag, s.host.raised.getLsbD f.num ∧ s.host.enabled.getLsbD f.num
  held   : s.resetLine.asserted = true →
    s.host.raised = 0#22 ∧ s.host.attn = false ∧ s.intake.sending = none ∧ s.intake.waiting = none
  input  : s.host.inBuf.length ≤ 2
  output : s.host.outQueue.length ≤ 8
  slot   : s.intake.waiting.isSome → s.intake.sending.isSome

/-! ## Profile table and settings (R5, R10, R11, R13, R55, R124, R134, R176) -/

/-- R176: the values a setting may hold. A pilot_interval is 0 or 100..65535. -/
def settingAdmits (id : Nat) (v : Int) : Prop :=
  match settingKind id with
  | some (.enumeration codes) => 0 ≤ v ∧ v < codes
  | some (.numeric lo hi) => lo ≤ v ∧ v ≤ hi ∧ (id = 23 → v = 0 ∨ 100 ≤ v)
  | none => False

/-- Every setting holds a value of its own (R176), with fade_exit below fade_enter (R55) and rsl_low below rsl_high
(R134). -/
structure Settings.Lawful (x : Settings) : Prop where
  inRange : ∀ id : Nat, 1 ≤ id → id ≤ 35 → ∃ v, x.get id = some v ∧ settingAdmits id v
  fade    : x.fadeExit < x.fadeEnter
  rsl     : x.rslLow < x.rslHigh

/-- R5: what a table that passes validation against `attenMax` looks like: row 0 is enabled, every enabled row keeps
the hysteresis and the backoff limit, and every enabled row lies above every lower enabled row. -/
structure TableValid (t : Table) (attenMax : Nat) : Prop where
  row0       : (t[(0 : Profile)]).enabled = true
  hysteresis : ∀ i : Profile, (t[i]).enabled = true → (t[i]).tDown + 10 ≤ (t[i]).tUp
  backoff    : ∀ i : Profile, (t[i]).enabled = true → (t[i]).backoff ≤ attenMax
  order      : ∀ j i : Profile, j < i → (t[j]).enabled = true → (t[i]).enabled = true →
    (t[j]).tDown < (t[i]).tDown ∧ (t[j]).tUp < (t[i]).tUp ∧ (t[j]).capacity < (t[i]).capacity ∧
      (t[j]).backoff ≤ (t[i]).backoff

/-- The own mask is the set of the enabled active rows (R10), the active table is valid against atten_max as it stands
(R5, R124), profile 0 is stored in far half 0 (R11), N is what R13 says it is, and every setting is in
its range. -/
structure State.TableLaw (s : State) : Prop where
  settings   : s.settings.Lawful
  own        : ∀ p : Profile, inSet s.table.ownMask p = (s.table.active[p]).enabled
  valid      : TableValid s.table.active s.settings.attenMax
  half0      : s.table.farHalf0.getLsbD 0 = true
  negotiated : s.table.negotiated =
    if s.table.mark0 && s.table.mark1 then s.table.ownMask &&& (s.table.farHalf1 ++ s.table.farHalf0) else 1#16

/-- R5: row `i` of a table fails the test against `attenMax`. ORDER compares with the nearest lower enabled row. -/
def RowFails (t : Table) (attenMax : Nat) (i : Profile) : RowTest → Prop
  | .row0 => i = 0 ∧ (t[i]).enabled = false
  | .hysteresis => (t[i]).enabled = true ∧ (t[i]).tUp < (t[i]).tDown + 10
  | .order => (t[i]).enabled = true ∧ ∃ j : Profile, j < i ∧ (t[j]).enabled = true ∧
      (∀ k : Profile, j < k → k < i → (t[k]).enabled = false) ∧
      ((t[i]).tDown ≤ (t[j]).tDown ∨ (t[i]).tUp ≤ (t[j]).tUp ∨ (t[i]).capacity ≤ (t[j]).capacity ∨
        (t[i]).backoff < (t[j]).backoff)
  | .backoffLimit => (t[i]).enabled = true ∧ attenMax < (t[i]).backoff

/-- R5, R183: the places of the tests in the order of the rule, which are their codes. -/
def RowTest.place : RowTest → Nat
  | .row0 => 0 | .hysteresis => 1 | .order => 2 | .backoffLimit => 3

/-- R5: the first failure of validation: the lowest row that fails a test, and the first test it fails. -/
structure FirstFailure (t : Table) (attenMax : Nat) (i : Profile) (test : RowTest) : Prop where
  fails  : RowFails t attenMax i test
  first  : ∀ other : RowTest, RowFails t attenMax i other → test.place ≤ other.place
  lowest : ∀ (j : Profile) (other : RowTest), RowFails t attenMax j other → i ≤ j

/-! ## One entry (R16, R17, R38, R154, R160, R180) -/

/-- R17: a record that makes an entry which is not held. -/
def Metrics.Usable (m : Metrics) : DivMode → Prop
  | .combine | .select => m.mainValid = true ∨ m.spaceValid = true
  | .main => m.mainValid = true
  | .space => m.spaceValid = true

/-- R17, R160: `good` is the good header of an entry, if it has one. -/
def Entry.Shows (e : Entry) (mode : DivMode) (good : Option Metrics) : Prop :=
  ∀ m, good = some m ↔ e.record = some m ∧ e.headerValid = true ∧ m.Usable mode

/-- What one block makes of an entry, from the state `x` to `y`. `v` are the values of the entry that the Estimator
hands on. -/
def EntryActs (e : Entry) (good : Option Metrics) (v : EntryValues) (x y : State) : EntryBlock → Prop
  | .estimator => x.estimate e = (y, v)
  | .fadeTracker => y = x.trackFade v
  | .decision => y = x.runDecision v
  | .hopSignalling => y = x.signal good
  | .powerReceive => y = x.powerReceive v
  | .powerTransmit => y = x.powerTransmit good
  | .monitor => y = x.monitorEntry v
  | .farMask => y = x.takeFarMask good
  | .swap => y = x.swapAtEntry
  | .linkState => y = x.linkEntry good

/-- R38, R180: a report that waits was triggered by an entry (ONCE, PERIODIC). -/
def State.EntryReportWaits (s : State) : Prop :=
  WatchTrigger.once ∈ s.host.watch.triggered ∨ WatchTrigger.periodic ∈ s.host.watch.triggered

/-- The blocks handle an entry one after another. After each the watch reports that wait may be assembled; one that an
entry triggered only when the Estimator has acted (assumption 30). -/
def EntryPasses (e : Entry) (good : Option Metrics) (v : EntryValues) : List EntryBlock → State → State → Prop
  | [], x, t => t = x
  | b :: bs, x, t => ∃ y z, EntryActs e good v x y b ∧ EntryPasses e good v bs z t ∧
      (z = y ∨ z = y.assembleReports ∧ (EntryBlock.estimator ∈ bs → ¬ y.EntryReportWaits))

/-- R16, R88, R180: the entry `e` takes `s` to `t`. The report of an entry before it that still waits is assembled first;
the watch is told of the entry, the request lane's timer may fall again, and the counter of the free
values moves on. Then each of the ten blocks handles the entry once, the Estimator before the Fade
Tracker, the Decision Unit, the receive side of the Power Control Unit and the Performance Monitor. -/
def State.Handles (s : State) (e : Entry) (t : State) : Prop :=
  ∃ (s' : State) (good : Option Metrics) (v : EntryValues) (order : List EntryBlock),
    (s.EntryReportWaits → s' = s.assembleReports) ∧ (¬ s.EntryReportWaits → s' = s) ∧
    e.Shows s.settings.divMode good ∧
    order.Perm [.estimator, .fadeTracker, .decision, .hopSignalling, .powerReceive, .powerTransmit, .monitor,
      .farMask, .swap, .linkState] ∧
    (∀ b ∈ order.takeWhile (· ≠ .estimator), b ≠ .fadeTracker ∧ b ≠ .decision ∧ b ≠ .powerReceive ∧ b ≠ .monitor) ∧
    EntryPasses e good v order (State.watchEntry { s' with
      hop := { s'.hop with lane := { s'.hop.lane with fresh := false } }, freeCount := s'.freeCount + 1 }) t

/-- R154: `k` held frames, numbered from `n`, take `s` to `t`. -/
def State.HandlesHeld : Nat → FrameNo → State → State → Prop
  | 0, _, s, t => t = s
  | k + 1, n, s, t => ∃ u, s.Handles { frame := n, resumed := false, record := none, headerValid := false } u ∧
      HandlesHeld k (n + 1#16) u t

/-- R154, R160: the accepted record `m` is delivered as an entry and takes `s` to `t`. Its header is valid when its flag
says so and its profile is in `own`, the own mask as the record is taken; RX_UNEXPECTED is raised when the
profile alone is at fault, before the entry (assumption 11). -/
def State.Delivers (s : State) (own : ProfileSet) (m : Metrics) (resumed : Bool) (t : State) : Prop :=
  let valid := m.headerValid && own.getLsbD m.rxProfile.val
  (if m.headerValid && !valid then s.raise .rxUnexpected else s).Handles
    { frame := m.frame, resumed := resumed, record := some m, headerValid := valid } t

/-! ## Channel Estimator (R25, R27, R30, R32, R33) -/

/-- R25, R33: the ranges of one history entry; its rx profile is present exactly when its header is good, and a held
entry has no good header. -/
structure HistoryEntry.Lawful (x : HistoryEntry) : Prop where
  e      : x.e ≤ 500
  s      : x.s ≤ 500
  p      : x.p ≤ x.s
  d      : -500 ≤ x.d ∧ x.d ≤ 500
  rsl    : -400 ≤ x.rsl ∧ x.rsl ≤ -40
  seen   : x.rxProfile.isSome = x.headerValid
  header : x.headerValid = true → x.held = false

/-- Each branch offset lies in −50..+50 (R30), the ring holds at most 512 lawful entries (R25, R32), S16 lies in
0..8000 (R23), the hold count in 0..255 (R27). -/
structure Estimator.Lawful (e : Estimator) : Prop where
  main  : -50 ≤ e.offMain ∧ e.offMain ≤ 50
  space : -50 ≤ e.offSpace ∧ e.offSpace ≤ 50
  s16   : ∀ v, e.s16 = some v → v ≤ 8000
  hold  : e.hold ≤ 255
  ring  : e.ring.length ≤ 512
  each  : ∀ x ∈ e.ring, x.Lawful

/-- R32: newest first, each entry's frame number is one more than that of the entry before it, unless it is marked
resumed. -/
def continuous : List HistoryEntry → Prop
  | x :: y :: rest => (x.resumed = true ∨ x.frame = y.frame + 1#16) ∧ continuous (y :: rest)
  | [_] | [] => True

/-- The ring is continuous (R32), and while the intake is LOCKED the expected number follows the newest entry. -/
structure State.FrameLaw (s : State) : Prop where
  ring     : continuous s.est.ring
  expected : s.intake.state = .locked → ∀ x, s.est.ring.head? = some x → s.intake.expected = x.frame + 1#16

/-! ## Fade Tracker (R42, R53) -/

/-- R53: the log holds at most 32 records in strictly rising id, none of them the open fade's; the open fade has the
counter's id (R42). -/
structure FadeTracker.Lawful (f : FadeTracker) : Prop where
  length  : f.log.length ≤ 32
  rising  : (f.log.map (·.body.id)).Pairwise (· < ·)
  ids     : ∀ x ∈ f.log, 1 ≤ x.body.id ∧ x.body.id ≤ f.idCounter
  counter : f.idCounter ≤ 4294967295
  opened  : ∀ o, f.openFade = some o → o.id = f.idCounter ∧ 1 ≤ o.id ∧ ∀ x ∈ f.log, x.body.id < o.id

/-! ## Hop signalling and transmit record (R87, R106, R110, R118) -/

/-- R87: an ask is pending exactly in ASKING and SWITCHING, only the timer of the lane's state can run, and the timeout
count lies in 0..2 and is above 0 in ASKING only. -/
structure RequestLane.Lawful (l : RequestLane) : Prop where
  pending  : l.pending.isSome ↔ l.state = .asking ∨ l.state = .switching
  answer   : l.state ≠ .asking → l.answerTimer = 0
  deadline : l.state ≠ .switching → l.deadline = 0
  backoff  : l.state ≠ .backoff → l.backoffTimer = 0
  timeouts : l.timeouts ≤ 2
  counted  : l.state ≠ .asking → l.timeouts = 0

/-- R110: a staged profile differs from the active one and its countdown lies in 1..15. R118: pilots owed lie in 0..8.
R106: the halt-notice count lies in 0..32. -/
structure TransmitRecord.Lawful (t : TransmitRecord) : Prop where
  staged : ∀ g, t.staged = some g → g.profile ≠ t.active ∧ 1 ≤ g.countdown ∧ g.countdown ≤ 15
  owed   : t.owed ≤ 8
  halt   : t.haltCount ≤ 32

/-! ## Link state (R51, R85, R97, R116, R122, R136, R142, R158, R164) -/

/-- What holds of the link. Outside RUN the transmitter is at profile 0 with nothing staged (R116), r is 0 (R85), the
lane is STEADY (R97), no fade is open and no run is in progress (R51). The intake is IDLE exactly in
CONFIG (R137, R138), with its silence timer stopped (R158). The acquisition timer runs exactly in SYNC and
CAPS (R142). Held A is present exactly while the limit is in effect (R122). The degraded mark is set
whenever the intake is not LOCKED or the link is not in RUN (R164). -/
structure State.LinkLaw (s : State) : Prop where
  outside  : s.link.state ≠ .run → s.tx.active = 0 ∧ s.tx.staged = none ∧ s.hop.r = 0 ∧
    s.hop.lane.state = .steady ∧ s.fade.openFade = none ∧ s.fade.entryLen = 0 ∧ s.fade.exitLen = 0
  idle     : s.link.state = .config ↔ s.intake.state = .idle
  silence  : s.intake.state = .idle → s.intake.silence = none
  timer    : s.link.acqTimer.isSome ↔ s.link.state = .sync ∨ s.link.state = .caps
  heldA    : s.power.heldA.isSome ↔ s.power.limit = .limited
  degraded : s.intake.state ≠ .locked ∨ s.link.state ≠ .run → s.monitor.degraded = true

/-! ## Performance Monitor (R166, R168) -/

/-- R168: the counts of one bin. -/
structure Bin.Lawful (b : Bin) : Prop where
  ses     : b.ses ≤ b.es
  total   : b.es + b.uas ≤ b.seconds
  seconds : b.seconds ≤ 900

/-- Each number of a list is one more, modulo 2^32, than the number before it. -/
def consecutive : List Nat → Prop
  | x :: y :: rest => y = (x + 1) % 2 ^ 32 ∧ consecutive (y :: rest)
  | [_] | [] => True

/-- R168: the bin numbers rise by one, modulo 2^32, through the closed ring, oldest first, and on to the open bins. -/
def Monitor.Numbered (m : Monitor) : Prop :=
  consecutive ((m.closed ++ m.earlier.toList ++ [m.current]).map (·.number))

/-- R171: assertion of the RESET line has closed both open bins, so while the line is asserted no earlier bin is open. -/
def State.HeldMonitor (s : State) : Prop := s.resetLine.asserted = true → s.monitor.earlier = none

/-- R168: every bin is lawful and the closed ring holds at most 32. The seconds of the pending window belong to the open
bins: the earlier bin's first, and the current bin's after them. Every second of the earlier bin is
committed or waits, and so is every second of the current bin that has ended. The window holds fewer than
30 seconds between seconds (R166, R167). -/
structure Monitor.Lawful (m : Monitor) : Prop where
  closed   : ∀ b ∈ m.closed, b.Lawful
  ring     : m.closed.length ≤ 32
  current  : m.current.Lawful
  earlier  : ∀ b, m.earlier = some b → b.Lawful ∧ b.seconds < 900 ∧ b.number ≠ m.current.number
  waiting  : ∃ old new : List PendingSecond, m.window = old ++ new ∧
    (∀ x ∈ old, ∃ b, m.earlier = some b ∧ x.bin = b.number) ∧ (∀ x ∈ new, x.bin = m.current.number) ∧
    (∀ b, m.earlier = some b → b.seconds + old.length = 900 ∧ m.current.seconds = 0) ∧
    m.current.seconds + new.length = m.secondIndex
  index    : m.secondIndex < 900
  window   : m.window.length < 30

end Sys2Proof.Machine
end

