-- ==== Sys2Proof/Certificates/Slice0/Obligations.lean ====
section
/-! DEFINITION. The statements for the provers, each the proposition `Obligations.<Name>`. -/

open Sys2Proof Sys2Proof.Machine

/-! ## The queue of commands -/

/-- Step takes the command at the front of the queue, and runs it on the state with the queue's rest. -/
def Obligations.StepRunsFrontCommand : Prop :=
  ∀ (c : Instr) (s : State), step { s with pending := c :: s.pending } = exec c s

/-- The model's choice (assumption 5). With no command waiting one millisecond passes. While the RESET line is
asserted nothing changes; otherwise each running timer falls by one and the millisecond is counted, as long as nothing
reaches its end. -/
def Obligations.IdleStepIsOneMillisecond : Prop :=
  ∀ s : State, s.pending = [] →
    (s.resetLine.asserted = true → step s = .next s) ∧
    (s.Running → (∀ n, s.link.acqTimer = some n → 2 ≤ n) → (∀ n, s.intake.silence = some n → 2 ≤ n) →
      (s.host.collecting.isSome → s.host.quiet < 10) → s.monitor.millis < 999 →
      step s = .next { s with
        link := { s.link with acqTimer := s.link.acqTimer.map (· - 1) }
        intake := { s.intake with silence := s.intake.silence.map (· - 1) }
        host := { s.host with quiet := if s.host.collecting.isSome then s.host.quiet + 1 else s.host.quiet }
        monitor := { s.monitor with millis := s.monitor.millis + 1 } })

/-- The model's choice: no command touches the queue of commands. -/
def Obligations.CommandsLeaveQueueAlone : Prop :=
  ∀ (c : Instr) (s t : State), exec c s = .next t → t.pending = s.pending

/-! ## Power and the RESET line -/

/-- The state after reset meets every law that steps keep. -/
def Obligations.ResetMeetsEveryLaw : Prop :=
  State.reset.HostLaw ∧ State.reset.TableLaw ∧ State.reset.est.Lawful ∧ State.reset.FrameLaw ∧
    State.reset.fade.Lawful ∧ State.reset.hop.lane.Lawful ∧ State.reset.tx.Lawful ∧ State.reset.LinkLaw ∧
    State.reset.monitor.Lawful ∧ State.reset.monitor.Numbered ∧ State.reset.HeldMonitor

/-- R147: at power-on every block takes its power-on values, whatever the state was; with the RESET line released the
controller starts and queues STARTED, and with it asserted the controller is held. The values are those of R2, R9 to
R13, R35, R51, R77, R84, R85, R97, R103, R106, R122, R136, R151, R171, R173, R176 to R178, R180 and R181; the strap
levels come with the command. The model's choices among these values: the mark coldStart, by which a held start is
later a power-on start (assumption 10), the watch's mask, period, counter and list of waiting reports (assumption 12),
the marks fresh and pilotReload (assumption 20), justClosed (assumption 29), slotMode (assumption 35) and millis
(assumption 5). -/
def Obligations.PowerOnStarts : Prop :=
  (∀ (spd1 spd0 : Bool) (s : State),
    let rate := (if spd1 then 2 else 0) + (if spd0 then 1 else 0)
    exec (.powerOn spd1 spd0 false) s = .next { State.reset with
      pending := s.pending, freeCount := s.freeCount, host := { State.reset.host with rateCode := rate } } ∧
    exec (.powerOn spd1 spd0 true) s = .next { State.reset with
      pending := s.pending, freeCount := s.freeCount
      resetLine := { asserted := true, coldStart := true }
      host := { State.reset.host with rateCode := rate, outQueue := [] } }) ∧
  let s := State.reset
  (s.table.active = s.table.shadow ∧
    s.table.active[(0 : Profile)] = { enabled := true, modulation := .qpsk, codeRate := .half, capacity := 10,
                                      tDown := 40, tUp := 70, backoff := 0 } ∧
    (∀ p : Profile, p ≠ 0 → s.table.active[p] = { enabled := false, modulation := .qpsk, codeRate := .half,
                                                  capacity := 0, tDown := 0, tUp := 0, backoff := 0 }) ∧
    s.table.ownMask = 1#16 ∧ s.table.negotiated = 1#16 ∧ s.table.farHalf0 = 1#8 ∧ s.table.mark0 = false ∧
    s.table.farHalf1 = 0#8 ∧ s.table.mark1 = false ∧ s.table.pendingSwap = none) ∧
  (s.est.offMain = 0 ∧ s.est.offSpace = 0 ∧ s.est.s16 = none ∧ s.est.hold = 0 ∧ s.est.starved = false ∧
    s.est.ring = []) ∧
  (s.fade.openFade = none ∧ s.fade.entryLen = 0 ∧ s.fade.exitLen = 0 ∧ s.fade.longMark = false ∧
    s.fade.justClosed = false ∧ s.fade.log = [] ∧ s.fade.idCounter = 0) ∧
  s.decision = { holdoff := 0, errorWindow := [], downDwell := 0, upCandidate := none, upDwell := 0, force := .auto
                 last := none } ∧
  s.hop = {
    lane := { state := .steady, seq := 0#3, pending := none, answerTimer := 0, deadline := 0, backoffTimer := 0
              timeouts := 0, fresh := false }
    answer := { lastTaken := none, kind := .none, seq := 0#3, value := 0#4 }
    far := { phase := .sync, fade := false, askKind := .none, askSeq := 0#3, askProfile := 0, ansKind := .none
             ansSeq := 0#3, ansValue := 0#4, powerReq := .none }
    r := 0 } ∧
  s.tx = { active := 0, staged := none, owed := 0, pilotTimer := some 2000, pilotReload := false, lastPilot := false
           haltCount := 0, expectedSlot := 0#16, nextHalf := false } ∧
  s.power = { a := 31, heldA := none, limit := .released, lastSample := none, rateCount := 0, request := .none
              slotMode := .auto } ∧
  s.link = { state := .config, acqTimer := none, farWatch := 0, missing := 0, cause := .powerOn } ∧
  (s.intake.state = .idle ∧ s.intake.expected = 0#16 ∧ s.intake.runLen = 0 ∧ s.intake.badCount = 0 ∧
    s.intake.resyncCount = 0 ∧ s.intake.silence = none ∧ s.intake.waiting = none ∧ s.intake.sending = none) ∧
  s.monitor = {
    t := 0, h := 0, u := 0, degraded := true, availability := .unavailable, window := [], secondIndex := 0
    earlier := none, closed := [], millis := 0
    current := { number := 0, seconds := 0, truncated := false, es := 0, ses := 0, uas := 0
                 perProfile := Vector.replicate 16 0, downshifts := 0, upshifts := 0, urgents := 0, fades := 0
                 minS := none, maxS := none } } ∧
  s.host.watch = { mode := .off, mask := 0#6, period := 0, counter := 0, report := 0#16, triggered := [] } ∧
  (s.host.collecting = none ∧ s.host.restarting = false) ∧
  (s.host.raised = 0#22 ∧ s.host.attn = false ∧
    (∀ f : EventFlag, s.host.enabled.getLsbD f.num = true ↔
      f ∈ [EventFlag.linkUp, .linkLoss, .starved, .swapTimeout, .hostOverrun]) ∧
    s.host.outQueue = [{ kind := 0x40#8, tag := 0#8, payload := [0#8] }] ∧ s.host.inBuf = []) ∧
  (List.range' 1 35).map s.settings.get =
    [0, 8, 1, 4, 16, 4, 300, 60, 30, 3, 40000, 96, 20, 1, 32, 400, 1, 4, 4, 24, 64, 5000, 2000, 0, 10, 31,
     -100, -80, 8, 16, 8, 64, 20, 30, 10].map some

/-- R147, R151: while the RESET line is asserted, no command but power-on and the release of the line has an effect.
-/
def Obligations.HeldControllerTakesNothing : Prop :=
  ∀ (c : Instr) (s : State), s.resetLine.asserted = true → (∀ a b d, c ≠ .powerOn a b d) →
    (∀ a b, c ≠ .resetLineRelease a b) → exec c s = .next s

/-- R2, R30, R147, R151, R168, R171, R178: assertion of the RESET line. The tables and masks take their initial
values, the calibration offsets become 0, a descriptor being returned is cut off and a waiting slot is discarded,
every flag is clear and ATTN is deasserted. Every second of the pending window is committed with its own class to its
own bin, the open bins are closed as truncated, in order of number, into a ring that keeps the newest 32, and the
monitor starts afresh with the next bin number. The model's choices: what is left alone changes at the release
(assumption 16); a bin whose 900th second is committed here closes before it is truncated (assumption 15). -/
def Obligations.ResetLineAssertHolds : Prop :=
  ∀ s : State, s.Running → ∃ ring,
    exec .resetLineAssert s = .next { s with
      resetLine := { s.resetLine with asserted := true }
      table := State.reset.table
      est := { s.est with offMain := 0, offSpace := 0 }
      intake := { s.intake with sending := none, waiting := none }
      host := { s.host with raised := 0#22, attn := false }
      monitor := { State.reset.monitor with
        current := { State.reset.monitor.current with number := (s.monitor.current.number + 1) % 2 ^ 32 }
        closed := ring } } ∧
    let waits (b : Bin) := b.withSeconds (s.monitor.window.filter fun p => p.bin == b.number)
    let last := { waits s.monitor.current with truncated := true }
    (s.monitor.Lawful → ring = newest 32 (s.monitor.closed ++
      match s.monitor.earlier with
      | none => [last]
      | some b => [waits b, last]))

/-- R147, R171, R172: at the release every block takes its initial values and STARTED is queued, with the cause
RESET_LINE, or POWER_ON when the supply rose under the line; the bins closed so far are kept. The model's choices:
POWER_ON for a start held since the supply rose (assumption 10); the watch's mask, period, counter and list of waiting
reports (assumption 12); released already, nothing happens (assumption 4). -/
def Obligations.ResetLineReleaseStarts : Prop :=
  ∀ (spd1 spd0 : Bool) (s : State),
    (s.resetLine.asserted = true → exec (.resetLineRelease spd1 spd0) s = .next { State.reset with
      pending := s.pending, freeCount := s.freeCount
      link := { State.reset.link with cause := if s.resetLine.coldStart then .powerOn else .resetLine }
      monitor := { State.reset.monitor with
        current := { State.reset.monitor.current with number := s.monitor.current.number }
        closed := s.monitor.closed }
      host := { State.reset.host with
        rateCode := (if spd1 then 2 else 0) + (if spd0 then 1 else 0)
        outQueue := [{ kind := 0x40#8, tag := 0#8,
                       payload := [if s.resetLine.coldStart then 0#8 else 1#8] }] } }) ∧
    (s.Running → exec (.resetLineRelease spd1 spd0) s = .next s)

/-! ## The host line -/

/-- R172, R173: a message on the line, after any bytes that are no sync byte, is received: what the envelope of a
message carries is that message. It goes to the input buffer, or, with two messages there, is discarded and
HOST_OVERRUN is raised. That a taken RESTART occupies neither place is the model's choice (assumption 37). -/
def Obligations.EnvelopeCompletesMessage : Prop :=
  ∀ (s : State) (noise : List Byte) (m : Message), s.Running → s.host.collecting = none →
    0xB7#8 ∉ noise → m.payload.length ≤ 248 →
    exec (.hostMessage (noise ++ envelope m)) s = .next
      (if s.host.inBuf.length < 2 then
        { s with host := { s.host with quiet := 0, inBuf := s.host.inBuf ++ [m] } }
       else { s with host := { s.host with quiet := 0 } }.raise .hostOverrun)

/-- R172: what makes no message is discarded, and the receiver hunts again: bytes that are no sync byte, a length byte
outside 2..250, and a message whose last two bytes are not the check of the bytes after the sync byte. -/
def Obligations.DamagedMessagesAreDiscarded : Prop :=
  ∀ s : State, s.Running → s.host.collecting = none →
    let hunting : Host.Outcome State Fault Refusal := .next { s with host := { s.host with quiet := 0 } }
    (∀ noise : List Byte, noise ≠ [] → 0xB7#8 ∉ noise → exec (.hostMessage noise) s = hunting) ∧
    (∀ len : Byte, len.toNat < 2 ∨ 250 < len.toNat → exec (.hostMessage [0xB7#8, len]) s = hunting) ∧
    (∀ (len kind tag c0 c1 : Byte) (payload : List Byte), 2 ≤ len.toNat → len.toNat ≤ 250 →
      payload.length + 2 = len.toNat → [c0, c1] ≠ le16 (crc16 ([len, kind, tag] ++ payload)) →
      exec (.hostMessage ([0xB7#8, len, kind, tag] ++ payload ++ [c0, c1])) s = hunting)

/-- R172, R174: more than 10 ms of silence inside a message discards it; when a message other than the RESTART reply
has been sent, it leaves the output queue. -/
def Obligations.HostLineEvents : Prop :=
  ∀ s : State, s.Running →
    exec .interByteTimeout s = .next { s with host := { s.host with collecting := none, quiet := 0 } } ∧
    (s.host.restarting = false ∨ (∀ m, s.host.outQueue.head? = some m → m.kind ≠ 0x93#8 ∨ m.payload ≠ [0#8]) →
      exec .messageSent s = .next { s with host := { s.host with outQueue := s.host.outQueue.tail } })

/-! ## Requests -/

/-- R173, R181, R182: no request is taken while none waits, while the output queue has no free place, or after a
RESTART has been taken. One whose payload is not as long as its kind takes is answered BAD_LENGTH, and nothing else
changes. That a row naming another kind than the front request's leaves the state alone is the model's choice
(assumption 4). -/
def Obligations.RequestsAreChecked : Prop :=
  ∀ (c : Instr) (kind : Byte) (len : Nat), (c, kind, len) ∈ requestRows → ∀ s : State,
    (s.Running → (s.host.inBuf = [] ∨ 8 ≤ s.host.outQueue.length ∨ s.host.restarting = true ∨
      (∃ m, s.host.inBuf.head? = some m ∧ m.kind ≠ kind)) → exec c s = .next s) ∧
    (∀ m : Message, s.Ready m → m.kind = kind → m.payload.length ≠ len →
      exec c s = .next (s.answered m 3#8 []))

/-- R173: a message of no request kind is answered UNKNOWN_KIND, and nothing else changes. -/
def Obligations.UnknownKindIsAnswered : Prop :=
  ∀ (s : State) (m : Message), s.Ready m →
    (∀ (c : Instr) (kind : Byte) (len : Nat), (c, kind, len) ∈ requestRows → m.kind ≠ kind) →
    exec .unknownKind s = .next (s.answered m 2#8 [])

/-- R175: GET_INFO is taken in every link state and changes no state; its reply is OK and carries the product code,
the revision, the reset cause and the rate code. -/
def Obligations.GetInfoAnswers : Prop :=
  ∀ (s : State) (m : Message), s.Ready m → m.kind = 0x01#8 → m.payload = [] →
    exec .getInfo s = .next (s.answered m 0#8
      [0x40#8, 0x73#8, 1#8,
       match s.link.cause with | .powerOn => 0#8 | .resetLine => 1#8 | .restart => 2#8,
       BitVec.ofNat 8 s.host.rateCode])

/-- R173, R176: SET_SETTING, against the table of R176. A numeric value is clamped to its range; one that passes the
cross-setting check is taken, and one that fails it is refused with ORDER. A code of an enumeration, which run from 0,
is taken, and a value that is no code is refused with OUT_OF_RANGE. The reply carries the id and the value in force;
an id outside 1..35 is refused with OUT_OF_RANGE and carries nothing. Every other setting keeps its value. A SET of
pilot_interval marks the pilot timer (R117). The value in force of each id is the setting that the table gives it. -/
def Obligations.SetSettingAnswers : Prop :=
  (∀ (s : State) (m : Message) (id : Byte) (v : BitVec 32), s.Ready m → m.kind = 0x02#8 →
    m.payload = id :: le32 v →
    let numeric : List (Nat × Int × Int) :=
      [(2, 0, 63), (3, 0, 6), (4, 0, 6), (5, 0, 64), (6, 1, 16), (7, 0, 500), (8, 10, 400), (9, 0, 390),
       (10, 1, 15), (11, 256, 65535), (12, 0, 255), (13, 0, 100), (14, 1, 15), (15, 1, 4095), (16, 0, 65535),
       (18, 2, 15), (19, 1, 15), (20, 8, 255), (21, 4, 4095), (22, 100, 60000), (23, 0, 65535), (25, 0, 31),
       (26, 0, 31), (27, -400, -40), (28, -400, -40), (29, 1, 255), (30, 4, 64), (31, 1, 32), (32, 8, 255),
       (33, 1, 255), (34, 1, 100), (35, 2, 30)]
    let enumerations : List (Nat × Int) := [(1, 4), (17, 2), (24, 2)]
    let taken (w : Int) := ∃ x : Settings,
      x.get id.toNat = some w ∧ (∀ j, j ≠ id.toNat → x.get j = s.settings.get j) ∧
      exec .setSetting s = .next (State.answered { s with
        settings := x
        tx := { s.tx with pilotReload := s.tx.pilotReload || id == 23#8 } } m 0#8 (id :: le32 (BitVec.ofInt 32 w)))
    let refused (status : Byte) := ∃ u, s.settings.get id.toNat = some u ∧
      exec .setSetting s = .next (s.answered m status (id :: le32 (BitVec.ofInt 32 u)))
    (∀ lo hi, (id.toNat, lo, hi) ∈ numeric →
      (s.Admits id.toNat (nearestValue id.toNat lo hi v.toInt) → taken (nearestValue id.toNat lo hi v.toInt)) ∧
      (¬ s.Admits id.toNat (nearestValue id.toNat lo hi v.toInt) → refused 5#8)) ∧
    (∀ codes, (id.toNat, codes) ∈ enumerations →
      (0 ≤ v.toInt ∧ v.toInt < codes → taken v.toInt) ∧ (¬ (0 ≤ v.toInt ∧ v.toInt < codes) → refused 4#8)) ∧
    (id.toNat < 1 ∨ 35 < id.toNat → exec .setSetting s = .next (s.answered m 4#8 []))) ∧
  ∀ x : Settings,
    let n (k : Nat) : Int := k
    let divMode : Int := match x.divMode with | .combine => 0 | .select => 1 | .main => 2 | .space => 3
    let errorOverride : Int := if x.errorOverride then 1 else 0
    let atpcMode : Int := match x.atpcMode with | .auto => 0 | .fixed => 1
    (List.range' 1 35).map x.get = ([
      divMode, n x.stressWeight, n x.smoothDown, n x.smoothUp, n x.horizon, n x.holdLimit, n x.clearSky,
      n x.fadeEnter, n x.fadeExit, n x.fadePersist, n x.fadeLimit, n x.stressSelective, n x.urgentMargin,
      n x.downDwell, n x.upDwell, n x.upHoldoff, errorOverride, n x.switchLead, n x.switchGuard, n x.askTimeout,
      n x.askBackoff, n x.acqTimeout, n x.pilotInterval, atpcMode, n x.fixedAtten, n x.attenMax, x.rslLow, x.rslHigh,
      n x.powerInterval, n x.lockCount, n x.badLimit, n x.resyncLimit, n x.recordTimeout, n x.sesPercent,
      n x.unavailRun] : List Int).map some

/-- R173, R176: GET_SETTING changes no state; its reply carries the id and the value in force, or is OUT_OF_RANGE for
an id outside 1..35. -/
def Obligations.GetSettingAnswers : Prop :=
  ∀ (s : State) (m : Message) (id : Byte), s.Ready m → m.kind = 0x03#8 → m.payload = [id] →
    (1 ≤ id.toNat ∧ id.toNat ≤ 35 → ∃ v, s.settings.get id.toNat = some v ∧
      exec .getSetting s = .next (s.answered m 0#8 (id :: le32 (BitVec.ofInt 32 v)))) ∧
    (¬ (1 ≤ id.toNat ∧ id.toNat ≤ 35) → exec .getSetting s = .next (s.answered m 4#8 []))

/-- R3, R182, R183: WRITE_PROFILE. With every field in range and no swap pending the seven fields of the payload
replace the named row of the shadow table, and nothing else changes; of the enabled byte the lowest bit counts,
whatever the rest. The refusals come in the order of the checks: OUT_OF_RANGE for the index, for each field and for an
enabled row of capacity 0, then BUSY while a swap is pending; a refusal changes nothing. -/
def Obligations.WriteProfileAnswers : Prop :=
  ∀ (s : State) (m : Message) (i en mo cr : Byte) (cap td tu : BitVec 16) (bo : Byte), s.Ready m →
    m.kind = 0x04#8 → m.payload = [i, en, mo, cr] ++ le16 cap ++ le16 td ++ le16 tu ++ [bo] →
    let outOfRange := 15 < i.toNat ∨ 9 < mo.toNat ∨ 4 < cr.toNat ∨ 1023 < cap.toNat ∨ 450 < td.toNat ∨
      450 < tu.toNat ∨ 20 < bo.toNat ∨ (en.getLsbD 0 = true ∧ cap = 0#16)
    (outOfRange → exec .writeProfile s = .next (s.answered m 4#8 [])) ∧
    (¬ outOfRange → s.table.pendingSwap.isSome → exec .writeProfile s = .next (s.answered m 10#8 [])) ∧
    (¬ outOfRange → s.table.pendingSwap = none → ∃ (row : ProfileRow) (table : Table),
      row.enabled = en.getLsbD 0 ∧
      (match row.modulation with
        | .qpsk => 0 | .qam16 => 1 | .qam32 => 2 | .qam64 => 3 | .qam128 => 4 | .qam256 => 5 | .qam512 => 6
        | .qam1024 => 7 | .qam2048 => 8 | .qam4096 => 9) = mo.toNat ∧
      (match row.codeRate with
        | .half => 0 | .twoThirds => 1 | .threeQuarters => 2 | .fiveSixths => 3 | .nineTenths => 4) = cr.toNat ∧
      row.capacity = cap.toNat ∧ row.tDown = td.toNat ∧ row.tUp = tu.toNat ∧ row.backoff = bo.toNat ∧
      (∀ p : Profile, table[p] = if p.val = i.toNat then row else s.table.shadow[p]) ∧
      exec .writeProfile s = .next
        (State.answered { s with table := { s.table with shadow := table } } m 0#8 []))

/-- R4: READ_PROFILE changes no state and is taken in every link state; its reply carries the seven fields of the row,
laid out by R182 and R183, and a selector or index out of range is refused. -/
def Obligations.ReadProfileAnswers : Prop :=
  ∀ (s : State) (m : Message) (selector i : Byte), s.Ready m → m.kind = 0x05#8 → m.payload = [selector, i] →
    let n8 (n : Nat) : List Byte := [BitVec.ofNat 8 n]
    let n16 (n : Nat) : List Byte := le16 (BitVec.ofNat 16 n)
    let fields (x : ProfileRow) : List Byte := (if x.enabled then [1#8] else [0#8]) ++
      n8 (match x.modulation with
        | .qpsk => 0 | .qam16 => 1 | .qam32 => 2 | .qam64 => 3 | .qam128 => 4 | .qam256 => 5 | .qam512 => 6
        | .qam1024 => 7 | .qam2048 => 8 | .qam4096 => 9) ++
      n8 (match x.codeRate with
        | .half => 0 | .twoThirds => 1 | .threeQuarters => 2 | .fiveSixths => 3 | .nineTenths => 4) ++
      n16 x.capacity ++ n16 x.tDown ++ n16 x.tUp ++ n8 x.backoff
    (∀ p : Profile, i.toNat = p.val → selector = 0#8 →
      exec .readProfile s = .next (s.answered m 0#8 (fields s.table.active[p]))) ∧
    (∀ p : Profile, i.toNat = p.val → selector = 1#8 →
      exec .readProfile s = .next (s.answered m 0#8 (fields s.table.shadow[p]))) ∧
    (1 < selector.toNat ∨ 15 < i.toNat → exec .readProfile s = .next (s.answered m 4#8 []))

/-- R5: a table passes validation exactly when row 0 is enabled, every enabled row keeps the hysteresis and the
backoff limit, and the enabled rows rise with the index. The tests compare a row with its nearest lower enabled row
only; that this orders every two enabled rows is what is to be shown. A table that does not pass is given the lowest
row that fails a test, with the first test that it fails in the order of the rule. -/
def Obligations.ValidationOrdersRows : Prop :=
  ∀ (t : Table) (attenMax : Nat), (validate t attenMax = none ↔ TableValid t attenMax) ∧
    (TableValid t attenMax ↔ ∀ (i : Profile) (test : RowTest), ¬ RowFails t attenMax i test) ∧
    ∀ (row : Nat) (test : RowTest), validate t attenMax = some (row, test) ↔
      ∃ i : Profile, row = i.val ∧ FirstFailure t attenMax i test

/-- R6, R10, R13, R123: SWAP_TABLE in CONFIG, SYNC or CAPS: a table that fails is refused with the row and the test of
its first failure, by their codes (R183); one that passes becomes the active table, with the own mask, N and A
following it. With a swap still pending the reply is BUSY. -/
def Obligations.SwapOutsideRun : Prop :=
  ∀ (s : State) (m : Message), s.Ready m → m.kind = 0x06#8 → m.payload = [] → s.link.state ≠ .run →
    (∀ (row : Profile) (test : RowTest), FirstFailure s.table.shadow s.settings.attenMax row test →
      exec .swapTable s = .next (s.answered m 7#8 [BitVec.ofNat 8 row.val, match test with
        | .row0 => 0#8 | .hysteresis => 1#8 | .order => 2#8 | .backoffLimit => 3#8])) ∧
    (TableValid s.table.shadow s.settings.attenMax → s.table.pendingSwap.isSome →
      exec .swapTable s = .next (s.answered m 10#8 [])) ∧
    (TableValid s.table.shadow s.settings.attenMax → s.table.pendingSwap = none → ∃ (own : ProfileSet) (a : Nat),
      (∀ p : Profile, own.getLsbD p.val = (s.table.shadow[p]).enabled) ∧
      a = max s.power.a (match s.tx.staged with
        | none => (s.table.shadow[s.tx.active]).backoff
        | some g => max (s.table.shadow[s.tx.active]).backoff (s.table.shadow[g.profile]).backoff) ∧
      exec .swapTable s = .next (State.answered { s with
        table := { s.table with
          active := s.table.shadow, ownMask := own
          negotiated := if s.table.mark0 && s.table.mark1 then own &&& (s.table.farHalf1 ++ s.table.farHalf0)
                        else 1#16 }
        power := { s.power with a := a } } m 0#8 []))

/-- R6, R7: SWAP_TABLE in RUN: a table that fails is refused as outside RUN, with the row and test of its first
failure; one that disables the active transmit profile or r is refused with IN_USE; with a swap pending the reply is
BUSY; otherwise it is ACCEPTED, and the swap is pending with its entry count 0. -/
def Obligations.SwapInRun : Prop :=
  ∀ (s : State) (m : Message), s.Ready m → m.kind = 0x06#8 → m.payload = [] → s.link.state = .run →
    let inUse := (s.table.shadow[s.tx.active]).enabled = false ∨ (s.table.shadow[s.hop.r]).enabled = false
    (∀ (row : Profile) (test : RowTest), FirstFailure s.table.shadow s.settings.attenMax row test →
      exec .swapTable s = .next (s.answered m 7#8 [BitVec.ofNat 8 row.val, match test with
        | .row0 => 0#8 | .hysteresis => 1#8 | .order => 2#8 | .backoffLimit => 3#8])) ∧
    (TableValid s.table.shadow s.settings.attenMax → inUse → exec .swapTable s = .next (s.answered m 8#8 [])) ∧
    (TableValid s.table.shadow s.settings.attenMax → ¬ inUse → s.table.pendingSwap.isSome →
      exec .swapTable s = .next (s.answered m 10#8 [])) ∧
    (TableValid s.table.shadow s.settings.attenMax → ¬ inUse → s.table.pendingSwap = none →
      exec .swapTable s = .next
        (State.answered { s with table := { s.table with pendingSwap := some 0 } } m 1#8 []))

/-- R8, R9, R10, R13, R123: a pending swap at an entry, and the attempt at a slot. It is taken when the lanes are
quiet (in RUN) and the repeated tests pass: the shadow table becomes the active one, the own mask and N follow it, A
is raised to the floor, TABLE_SWAPPED is raised, and nothing else changes. Otherwise an entry counts, and at the count
of 256 the swap is dropped with SWAP_TIMEOUT; a slot does not count. The row SWAP_TIMEOUT drops it where the attempt
would fail and the count reaches 256 as it next rises, and elsewhere has no effect (the model's choice, assumption 4).
Wherever in a slot the attempt falls (assumption 2), a swap that is ready at the slot, in a link state other than RUN
or with the active profile in N, is taken at it, and one that fails validation stays. -/
def Obligations.PendingSwapAtEntry : Prop :=
  (∀ s : State, s.table.pendingSwap = none → s.swapAtEntry = s ∧ s.trySwap = s) ∧
  ∀ (s : State) (n : Nat), s.table.pendingSwap = some n →
    let ready := TableValid s.table.shadow s.settings.attenMax ∧ (s.link.state = .run →
      (s.hop.lane.state = .steady ∨ s.hop.lane.state = .backoff) ∧ s.tx.staged = none ∧
      (s.table.shadow[s.tx.active]).enabled = true ∧ (s.table.shadow[s.hop.r]).enabled = true)
    let dropped := { s with table := { s.table with pendingSwap := none } }.raise .swapTimeout
    (ready → ∃ (own : ProfileSet) (a : Nat) (table : ProfileTable),
      (∀ p : Profile, own.getLsbD p.val = (s.table.shadow[p]).enabled) ∧
      a = max s.power.a (match s.tx.staged with
        | none => (s.table.shadow[s.tx.active]).backoff
        | some g => max (s.table.shadow[s.tx.active]).backoff (s.table.shadow[g.profile]).backoff) ∧
      table = { s.table with
        active := s.table.shadow, ownMask := own, pendingSwap := none
        negotiated := if s.table.mark0 && s.table.mark1 then own &&& (s.table.farHalf1 ++ s.table.farHalf0)
                      else 1#16 } ∧
      s.swapAtEntry = { s with table := table, power := { s.power with a := a } }.raise .tableSwapped ∧
      s.trySwap = s.swapAtEntry ∧
      (s.Running → s.intake.sending = none →
        (s.link.state = .run → s.table.negotiated.getLsbD s.tx.active.val = true) →
        ∀ (rest : List Byte) (txlim : Bool), ∃ t, exec (.txSlot rest txlim) s = .next t ∧ t.table = table ∧
          t.hasFlag .tableSwapped = true)) ∧
    (¬ ready → s.trySwap = s) ∧
    (¬ ready → n + 1 < 256 →
      s.swapAtEntry = { s with table := { s.table with pendingSwap := some (n + 1) } }) ∧
    (¬ ready → 256 ≤ n + 1 → s.swapAtEntry = dropped) ∧
    (¬ TableValid s.table.shadow s.settings.attenMax → s.Running → s.intake.sending = none →
      ∀ (rest : List Byte) (txlim : Bool), ∃ t, exec (.txSlot rest txlim) s = .next t ∧ t.table = s.table) ∧
    (s.Running → (ready ∨ n + 1 < 256 → exec .swapTimeout s = .next s) ∧
      (¬ ready → 256 ≤ n + 1 → exec .swapTimeout s = .next dropped))

/-- R12, R36, R84, R97, R103, R133, R137: LINK_START in CONFIG, and its refusal in SYNC, CAPS and RUN. -/
def Obligations.LinkStartAnswers : Prop :=
  ∀ (s : State) (m : Message), s.Ready m → m.kind = 0x07#8 → m.payload = [] →
    (s.link.state ≠ .config → exec .linkStart s = .next (s.answered m 6#8 [])) ∧
    (s.link.state = .config → exec .linkStart s = .next (State.answered { s with
      link := { s.link with state := .sync, acqTimer := some s.settings.acqTimeout, farWatch := 0, missing := 0 }
      intake := { s.intake with state := .search, runLen := 0, badCount := 0, resyncCount := 0, silence := none }
      tx := { s.tx with haltCount := 0 }
      table := { s.table with farHalf0 := 1#8, mark0 := false, farHalf1 := 0#8, mark1 := false, negotiated := 1#16 }
      est := { s.est with s16 := none, hold := 0, starved := false, ring := [] }
      hop := { s.hop with lane := State.reset.hop.lane, answer := State.reset.hop.answer, far := State.reset.hop.far }
      power := { s.power with request := .none }
      monitor := { s.monitor with degraded := true } } m 0#8 []))

/-- R50, R78, R85, R97, R103, R114, R116, R133, R138: LINK_STOP from RUN, from SYNC and CAPS, and its refusal in
CONFIG. From RUN an open fade closes as STOPPED, its exit run folded in and its depth and kind set, with FADE_END, and
FADE_LOG_DROP when the log was full (R53), and the OK reply comes after the notices of its events. That from SYNC and
CAPS the lanes, the far view, the ring and the marks stay as they stand is the model's choice (assumption 21). -/
def Obligations.LinkStopAnswers : Prop :=
  ∀ (s : State) (m : Message), s.Ready m → m.kind = 0x08#8 → m.payload = [] →
    let stopped : State := { s with
      link := { s.link with state := .config, acqTimer := none, farWatch := 0, missing := 0 }
      intake := { s.intake with state := .idle, runLen := 0, badCount := 0, resyncCount := 0, silence := none }
      tx := { s.tx with active := 0, staged := none, haltCount := 32 }
      power := { s.power with request := .none, rateCount := 0 }
      monitor := { s.monitor with degraded := true } }
    (s.link.state = .config → exec .linkStop s = .next (s.answered m 6#8 [])) ∧
    (s.link.state = .sync ∨ s.link.state = .caps → exec .linkStop s = .next (State.answered stopped m 0#8 [])) ∧
    (s.link.state = .run → s.fade.openFade = none → exec .linkStop s = .next (State.answered { stopped with
      hop := { s.hop with r := 0, lane := State.reset.hop.lane, answer := State.reset.hop.answer }
      decision := { State.reset.decision with force := s.decision.force }
      fade := { s.fade with entryLen := 0, entryFirst := 0#16, entryAcc := .empty, exitLen := 0,
                            exitAcc := .empty, justClosed := false } } m 0#8 [])) ∧
    (∀ o, s.link.state = .run → s.fade.openFade = some o → s.fade.log.length ≤ 32 → ∃ t closed,
      exec .linkStop s = .next t ∧
      t.link = stopped.link ∧ t.intake = stopped.intake ∧ t.tx = stopped.tx ∧ t.power = stopped.power ∧
      t.monitor = stopped.monitor ∧ t.hop.r = 0 ∧ t.hop.far = s.hop.far ∧ t.hop.lane = State.reset.hop.lane ∧
      t.hop.answer = State.reset.hop.answer ∧ t.decision = { State.reset.decision with force := s.decision.force } ∧
      t.table = s.table ∧ t.est = s.est ∧ t.settings = s.settings ∧
      t.fade.openFade = none ∧ t.fade.entryLen = 0 ∧ t.fade.exitLen = 0 ∧ t.fade.idCounter = s.fade.idCounter ∧
      t.fade.longMark = false ∧ t.fade.log = newest 32 (s.fade.log ++ [closed]) ∧
      closed.ClosesOnLink o s.fade s.settings .stopped ∧
      t.hasFlag .fadeEnd = true ∧ (32 ≤ s.fade.log.length → t.hasFlag .fadeLogDrop = true) ∧
      (s.fade.log.length < 32 → t.hasFlag .fadeLogDrop = s.hasFlag .fadeLogDrop) ∧
      t.host.inBuf = s.host.inBuf.tail ∧
      ∃ notices, t.host.outQueue = s.host.outQueue ++ notices ++ [{ kind := 0x88#8, tag := m.tag, payload := [0#8] }] ∧
        ∀ x ∈ notices, x.kind = 0x41#8)

/-- R72: FORCE and its checks, in order. A refused FORCE changes nothing; one that is taken replaces the mode and
clears the up dwell and the up candidate. -/
def Obligations.ForceAnswers : Prop :=
  ∀ (s : State) (m : Message) (mode p : Byte), s.Ready m → m.kind = 0x09#8 → m.payload = [mode, p] →
    let taken (f : ForceMode) : Host.Outcome State Fault Refusal := .next (State.answered { s with
      decision := { s.decision with force := f, upDwell := 0, upCandidate := none } } m 0#8 [])
    let set := if s.link.state = .run then s.table.negotiated else s.table.ownMask
    (2 < mode.toNat ∨ (mode ≠ 0#8 ∧ 15 < p.toNat) → exec .force s = .next (s.answered m 4#8 [])) ∧
    (mode = 0#8 → exec .force s = taken .auto) ∧
    (∀ c : Profile, p.toNat = c.val →
      (mode = 1#8 → exec .force s = taken (.ceiling c)) ∧
      (mode = 2#8 → set.getLsbD c.val = true → exec .force s = taken (.pinned c)) ∧
      (mode = 2#8 → set.getLsbD c.val = false → exec .force s = .next (s.answered m 9#8 [])))

/-- R118, R120: PILOT_NOW in RUN adds one pilot to pilots owed, which stop at 8, where PILOT_OVERDUE is raised;
outside RUN it is refused. R117: the pilot timer's expiry in RUN adds one too, and loads the timer again. The row of
that expiry acts whatever the running timer shows (the model's choice, assumption 4). -/
def Obligations.PilotsAreAdded : Prop :=
  ∀ s : State,
    (∀ m : Message, s.Ready m → m.kind = 0x0A#8 → m.payload = [] →
      (s.link.state ≠ .run → exec .pilotNow s = .next (s.answered m 6#8 [])) ∧
      (s.link.state = .run → s.tx.owed < 7 →
        exec .pilotNow s = .next (State.answered { s with tx := { s.tx with owed := s.tx.owed + 1 } } m 0#8 [])) ∧
      (s.link.state = .run → 7 ≤ s.tx.owed → exec .pilotNow s = .next
        (({ s.dropRequest with tx := { s.tx with owed := 8 } }.raise .pilotOverdue).replied m 0#8 []))) ∧
    (s.Running → s.link.state = .run → s.tx.pilotTimer.isSome →
      let timer := if s.settings.pilotInterval = 0 then none else some s.settings.pilotInterval
      (s.tx.owed < 7 → exec .pilotTimerExpiry s = .next { s with
        tx := { s.tx with owed := s.tx.owed + 1, pilotTimer := timer } }) ∧
      (7 ≤ s.tx.owed → exec .pilotTimerExpiry s = .next
        ({ s with tx := { s.tx with owed := 8, pilotTimer := timer } }.raise .pilotOverdue)))

/-- R179: READ_STATUS changes no state. Bits 6 and 7 of the mask are ignored; a mask that names no group is refused.
Otherwise the reply carries the mask and each named group, lowest first: its number, its length and its contents, item
by item: group 0 by R149, R15 and R163, group 1 by R38, group 2 by R79, group 3 by R105, group 4 by R121 and R135,
group 5 by R56 (the open record as it would close now, with no ended_by). The places and codes are those of R183. The
model's choices: the mask is echoed with bits 6 and 7 as 0 (assumption 17); the force mode AUTO is followed by the
profile byte 0xFF (assumption 14); the urgency shown while there is no last result is a free value (assumption 9). A
watch report carries the same groups. -/
def Obligations.ReadStatusAnswers : Prop :=
  ∀ (s : State) (m : Message) (mask : Byte), s.Ready m → m.kind = 0x0B#8 → m.payload = [mask] →
    let n8 (n : Nat) : List Byte := [BitVec.ofNat 8 n]
    let n16 (n : Nat) : List Byte := le16 (BitVec.ofNat 16 n)
    let n32 (n : Nat) : List Byte := le32 (BitVec.ofNat 32 n)
    let flag (b : Bool) : List Byte := if b then [1#8] else [0#8]
    let part (o : Option (List Byte)) : List Byte := match o with | none => [0#8] | some bs => 1#8 :: bs
    let index (o : Option Nat) : List Byte := match o with | none => [0xFF#8] | some n => n8 n
    let wide {k : Nat} (x : BitVec k) : List Byte := [x.setWidth 8]
    let group0 := n8 (match s.link.state with | .config => 0 | .sync => 1 | .caps => 2 | .run => 3) ++
      n8 (match s.intake.state with | .idle => 0 | .search => 1 | .locked => 2 | .resync => 3) ++
      n16 (s.link.acqTimer.getD 0) ++ n8 s.link.farWatch ++ n8 s.link.missing ++
      le16 s.table.ownMask ++ [s.table.farHalf0] ++ flag s.table.mark0 ++ [s.table.farHalf1] ++ flag s.table.mark1 ++
      le16 s.table.negotiated ++ part (s.table.pendingSwap.map n8) ++
      le16 s.intake.expected ++ n8 s.intake.runLen ++ (if s.intake.runLen = 0 then [0#8, 0#8] else le16 s.intake.runLast) ++
      n8 s.intake.badCount ++ n16 s.intake.resyncCount ++ n8 (s.intake.silence.getD 0)
    let group1 := part (s.est.ring.head?.map HistoryEntry.bytes) ++ n16 s.est.ring.length ++
      n16 (s.est.s16.getD 0xFFFF) ++ le16 (BitVec.ofInt 16 s.est.offMain) ++ le16 (BitVec.ofInt 16 s.est.offSpace) ++
      n8 s.est.hold ++ flag s.est.starved
    let result := match s.decision.last with
      | none => [0xFF#8, 0xFF#8] ++ flag (Config.freeAbsentUrgency s.freeCount)
      | some x => n8 (match x.rule with
          | .starved => 0 | .urgent => 1 | .outOfSet => 2 | .downshift => 3 | .error => 4 | .upshift => 5
          | .pinned => 6 | .none => 7) ++ n8 x.target.val ++ flag x.urgent
    let group2 := n8 s.hop.r.val ++ result ++
      (match s.decision.force with
        | .auto => [0#8, 0xFF#8] | .ceiling c => 1#8 :: n8 c.val | .pinned p => 2#8 :: n8 p.val) ++
      n16 s.decision.holdoff ++ n8 s.decision.downDwell ++ index (s.decision.upCandidate.map Fin.val) ++
      n16 s.decision.upDwell ++ n8 s.decision.errorWindow.length ++ n8 (s.decision.errorWindow.count true)
    let l := s.hop.lane
    let group3 := n8 (match l.state with | .steady => 0 | .asking => 1 | .switching => 2 | .backoff => 3) ++
      wide l.seq ++ part (l.pending.map fun a => n8 a.profile.val ++ flag a.urgent) ++
      (match l.state with
        | .steady => [0#8, 0#8, 0#8] | .asking => 1#8 :: n16 l.answerTimer | .switching => 2#8 :: n16 l.deadline
        | .backoff => 3#8 :: n16 l.backoffTimer) ++
      n8 l.timeouts ++ index (s.hop.answer.lastTaken.map BitVec.toNat) ++ wide s.hop.answer.kind.code ++
      wide s.hop.answer.seq ++ wide s.hop.answer.value ++
      wide s.hop.far.phase.code ++ flag s.hop.far.fade ++ wide s.hop.far.askKind.code ++ wide s.hop.far.askSeq ++
      n8 s.hop.far.askProfile.val ++ wide s.hop.far.ansKind.code ++ wide s.hop.far.ansSeq ++
      wide s.hop.far.ansValue ++ wide s.hop.far.powerReq.code
    let floor := match s.tx.staged with
      | none => (s.table.active[s.tx.active]).backoff
      | some g => max (s.table.active[s.tx.active]).backoff (s.table.active[g.profile]).backoff
    let group4 := n8 s.tx.active.val ++
      part (s.tx.staged.map fun g => n8 g.profile.val ++ n8 g.countdown ++ wide g.seq) ++ n8 s.tx.owed ++
      flag s.tx.lastPilot ++ n16 (s.tx.pilotTimer.getD 0) ++ n8 s.tx.haltCount ++ le16 s.tx.expectedSlot ++
      n8 s.power.a ++ n8 floor ++ n8 (match s.power.limit with | .released => 0 | .limited => 1) ++
      index (s.power.lastSample.map fun x => match x with | .asserted => 0 | .released => 1) ++
      index s.power.heldA ++ n8 s.power.rateCount ++ wide s.power.request.code
    let group5 := flag s.fade.openFade.isSome ++ n8 s.fade.entryLen ++
      (if s.fade.entryLen = 0 then [0#8, 0#8] else le16 s.fade.entryFirst) ++ n8 s.fade.exitLen ++
      (if s.fade.exitLen = 0 then [0#8, 0#8, 0#8, 0#8] else n32 s.fade.exitAcc.duration) ++ flag s.fade.longMark ++
      n32 s.fade.idCounter ++ n8 s.fade.log.length ++
      part (s.fade.openFade.map fun o =>
        n32 o.id ++ le16 o.start ++ n32 o.duration ++ n16 o.minS ++ n16 (s.settings.clearSky - o.minS) ++
          n8 o.rOpen.val ++ n8 o.lowR.val ++ n16 o.downshifts ++ n16 o.urgents ++ n32 o.stressSum ++
          n32 o.stressCount ++
          flag (s.settings.stressSelective ≤ o.stressSum / o.stressCount) ++ [0xFF#8])
    let contents : List (List Byte) := [group0, group1, group2, group3, group4, group5]
    let named : List Byte := (List.range 6).flatMap fun g =>
      if mask.getLsbD g then
        BitVec.ofNat 8 g :: BitVec.ofNat 8 (contents.getD g []).length :: contents.getD g []
      else []
    (mask &&& 0x3F#8 = 0#8 → exec .readStatus s = .next (s.answered m 4#8 [])) ∧
    (mask &&& 0x3F#8 ≠ 0#8 → exec .readStatus s = .next (s.answered m 0#8 ((mask &&& 0x3F#8) :: named))) ∧
    s.groups (mask.setWidth 6) = named

/-- R34: READ_HISTORY changes no state and is taken in every link state. Its reply carries the number of entries held,
the number returned, and the entries whose age lies from age_start up to the smaller of age_start + count - 1 and the
oldest age, oldest first. Each is ten bytes, one 80-bit little-endian number with its fields at the bits R183 gives.
-/
def Obligations.ReadHistoryAnswers : Prop :=
  ∀ (s : State) (m : Message) (start : BitVec 16) (count : Byte), s.Ready m → m.kind = 0x0C#8 →
    m.payload = le16 start ++ [count] →
    (511 < start.toNat ∨ count.toNat < 1 ∨ 24 < count.toNat → exec .readHistory s = .next (s.answered m 4#8 [])) ∧
    (start.toNat ≤ 511 → 1 ≤ count.toNat → count.toNat ≤ 24 → ∃ span : List HistoryEntry,
      span.length = min count.toNat (s.est.ring.length - start.toNat) ∧
      (∀ k : Nat, k < span.length → span.reverse[k]? = s.est.ring[start.toNat + k]?) ∧
      exec .readHistory s = .next (s.answered m 0#8
        (le16 (BitVec.ofNat 16 s.est.ring.length) ++ [BitVec.ofNat 8 span.length] ++
          span.flatMap HistoryEntry.bytes))) ∧
    ∀ x : HistoryEntry, ∃ w : BitVec 80,
      x.bytes = (List.range 10).map (fun k => w.extractLsb' (8 * k) 8) ∧
      w.extractLsb' 0 16 = x.frame ∧ w.extractLsb' 16 9 = BitVec.ofNat 9 x.e ∧
      w.extractLsb' 25 9 = BitVec.ofNat 9 x.s ∧ w.extractLsb' 34 9 = BitVec.ofNat 9 x.p ∧
      w.extractLsb' 43 10 = BitVec.ofInt 10 x.d ∧ w.extractLsb' 53 9 = BitVec.ofInt 9 (x.rsl + 400) ∧
      w.extractLsb' 62 4 = BitVec.ofNat 4 (match x.rxProfile with | none => 0 | some p => p.val) ∧
      w.getLsbD 66 = x.held ∧ w.getLsbD 67 = x.resumed ∧ w.getLsbD 68 = x.pilot ∧ w.getLsbD 69 = x.mainValid ∧
      w.getLsbD 70 = x.spaceValid ∧ w.getLsbD 71 = x.uncorrectable ∧ w.getLsbD 72 = x.inFade ∧
      w.getLsbD 73 = x.headerValid ∧ w.extractLsb' 74 6 = 0#6

/-- R54: READ_FADES carries the number of records held, the number returned, and the n oldest records, oldest first,
which leave the log; a max outside 1..6 is refused and the log is unchanged. Each record is the 30 bytes of R53 and
R183. -/
def Obligations.ReadFadesTakesOldest : Prop :=
  ∀ (s : State) (m : Message) (max : Byte), s.Ready m → m.kind = 0x0D#8 → m.payload = [max] →
    let n16 (n : Nat) : List Byte := le16 (BitVec.ofNat 16 n)
    let n32 (n : Nat) : List Byte := le32 (BitVec.ofNat 32 n)
    let fields (x : FadeRecord) : List Byte :=
      n32 x.body.id ++ le16 x.body.start ++ n32 x.body.duration ++ n16 x.body.minS ++ n16 x.maxDepth ++
      [BitVec.ofNat 8 x.body.rOpen.val, BitVec.ofNat 8 x.body.lowR.val] ++ n16 x.body.downshifts ++
      n16 x.body.urgents ++ n32 x.body.stressSum ++ n32 x.body.stressCount ++
      [match x.kind with | .flat => 0#8 | .selective => 1#8] ++
      [match x.endedBy with | .recovered => 0#8 | .linkLost => 1#8 | .stopped => 2#8 | .restart => 3#8]
    (max.toNat < 1 ∨ 6 < max.toNat → exec .readFades s = .next (s.answered m 4#8 [])) ∧
    (1 ≤ max.toNat → max.toNat ≤ 6 → ∃ taken rest : List FadeRecord,
      s.fade.log = taken ++ rest ∧ taken.length = min max.toNat s.fade.log.length ∧
      exec .readFades s = .next (State.answered { s with fade := { s.fade with log := rest } } m 0#8
        (BitVec.ofNat 8 s.fade.log.length :: BitVec.ofNat 8 taken.length :: taken.flatMap fields)))

/-- R169: READ_BIN changes no state. Its reply carries the availability state, the seconds pending, the open and the
closed bins, and the bin asked for, or a mark that there is none; age 0 is the newest closed bin. A bin is the 89
bytes of R168 and R183. -/
def Obligations.ReadBinAnswers : Prop :=
  ∀ (s : State) (m : Message) (selector age : Byte), s.Ready m → m.kind = 0x0E#8 →
    m.payload = [selector, age] →
    let head := [match s.monitor.availability with | .available => 0#8 | .unavailable => 1#8,
      BitVec.ofNat 8 s.monitor.window.length, if s.monitor.earlier.isSome then 2#8 else 1#8,
      BitVec.ofNat 8 s.monitor.closed.length]
    let n16 (n : Nat) : List Byte := le16 (BitVec.ofNat 16 n)
    let n32 (n : Nat) : List Byte := le32 (BitVec.ofNat 32 n)
    let fields (b : Bin) : List Byte := n32 b.number ++ n16 b.seconds ++
      (if b.truncated then [1#8] else [0#8]) ++ n16 b.es ++ n16 b.ses ++ n16 b.uas ++
      b.perProfile.toList.flatMap n32 ++ n16 b.downshifts ++ n16 b.upshifts ++ n16 b.urgents ++ n16 b.fades ++
      n16 (b.minS.getD 0xFFFF) ++ n16 (b.maxS.getD 0xFFFF)
    let found : Option Bin → List Byte := fun b => match b with | none => [0#8] | some b => 1#8 :: fields b
    (2 < selector.toNat ∨ (selector = 2#8 ∧ 31 < age.toNat) →
      exec .readBin s = .next (s.answered m 4#8 [])) ∧
    (selector = 0#8 → exec .readBin s = .next (s.answered m 0#8 (head ++ found (some s.monitor.current)))) ∧
    (selector = 1#8 → exec .readBin s = .next (s.answered m 0#8 (head ++ found s.monitor.earlier))) ∧
    (selector = 2#8 → age.toNat < s.monitor.closed.length → age.toNat ≤ 31 → ∃ b,
      s.monitor.closed[s.monitor.closed.length - 1 - age.toNat]? = some b ∧
      exec .readBin s = .next (s.answered m 0#8 (head ++ found (some b)))) ∧
    (selector = 2#8 → s.monitor.closed.length ≤ age.toNat → age.toNat ≤ 31 →
      exec .readBin s = .next (s.answered m 0#8 (head ++ found none)))

/-- R174, R177, R178: EVENT_ENABLE replaces the enables, CLEAR_EVENTS clears the flags it names, READ_EVENTS reads
both; bits 22 to 31 are ignored, and ATTN follows at once. A cause raises its flag: one already raised changes
nothing. A clear one is raised, every other flag and the enables stay, ATTN follows, and one EVENT notice with the
number of the flag and the whole set of raised flags is queued when the flag is enabled and at least two places of the
output queue are free; otherwise none is. Nothing else changes. -/
def Obligations.EventRequestsAnswer : Prop :=
  (∀ (s : State) (m : Message), s.Ready m →
    (∀ set : BitVec 32, m.kind = 0x0F#8 → m.payload = le32 set → ∃ attn enabled,
      (attn = true ↔ ∃ f : EventFlag, s.host.raised.getLsbD f.num ∧ set.getLsbD f.num) ∧
      (∀ f : EventFlag, enabled.getLsbD f.num = set.getLsbD f.num) ∧
      exec .eventEnable s = .next (State.answered { s with
        host := { s.host with enabled := enabled, attn := attn } } m 0#8 [])) ∧
    (∀ set : BitVec 32, m.kind = 0x10#8 → m.payload = le32 set → ∃ attn raised,
      (attn = true ↔ ∃ f : EventFlag, (s.host.raised.getLsbD f.num && !set.getLsbD f.num) ∧
        s.host.enabled.getLsbD f.num) ∧
      (∀ f : EventFlag, raised.getLsbD f.num = (s.host.raised.getLsbD f.num && !set.getLsbD f.num)) ∧
      exec .clearEvents s = .next (State.answered { s with
        host := { s.host with raised := raised, attn := attn } } m 0#8 [])) ∧
    (m.kind = 0x11#8 → m.payload = [] → exec .readEvents s = .next (s.answered m 0#8
      (le32 (s.host.raised.setWidth 32) ++ le32 (s.host.enabled.setWidth 32))))) ∧
  ∀ (s : State) (f : EventFlag),
    (s.host.raised.getLsbD f.num = true → s.raise f = s) ∧
    (s.host.raised.getLsbD f.num = false → ∃ attn raised,
      (attn = true ↔ ∃ g : EventFlag, raised.getLsbD g.num ∧ s.host.enabled.getLsbD g.num) ∧
      (∀ g : EventFlag, raised.getLsbD g.num = (s.host.raised.getLsbD g.num || decide (g = f))) ∧
      s.raise f = { s with host := { s.host with
        raised := raised, attn := attn
        outQueue := if s.host.enabled.getLsbD f.num = true ∧ s.host.outQueue.length ≤ 6 then
            s.host.outQueue ++ [{ kind := 0x41#8, tag := 0#8
                                  payload := BitVec.ofNat 8 f.num :: le32 (raised.setWidth 32) }]
          else s.host.outQueue } })

/-- R174, R180: WATCH and its reports. A mode outside the four, a mask that names no group in another mode than OFF,
and a period below 16 in PERIODIC are refused; otherwise the mode, mask and period are replaced, the counter becomes 0
and a report triggered and not yet assembled is discarded. The oldest triggered report is assembled with the next
report number, and is queued when at least two places of the output queue are free; otherwise it is dropped and
WATCH_DROPPED is raised. A report is triggered in mode ONCE by the next entry, which ends the mode; in PERIODIC by the
entry at which the counter reaches the period, which clears it; in ON_SWITCH by each change of r and each TX_SWITCH.
Where all reports that wait are assembled, they are assembled one after another in this way. The model's choices: the
number rises first, so that the first report is 1 (assumption 18); the notice carries the mask with bits 6 and 7 as 0
(assumption 17); reports are assembled in the order of their triggers (assumption 12); a WATCH that is refused leaves
a waiting report as it is (assumption 32). -/
def Obligations.WatchReports : Prop :=
  (∀ (s : State) (m : Message) (mode mask : Byte) (period : BitVec 16), s.Ready m → m.kind = 0x12#8 →
    m.payload = [mode, mask] ++ le16 period →
    let refused := 3 < mode.toNat ∨ (mode ≠ 0#8 ∧ mask &&& 0x3F#8 = 0#8) ∨ (mode = 2#8 ∧ period.toNat < 16)
    (refused → exec .watch s = .next (s.answered m 4#8 [])) ∧
    (¬ refused → ∃ w : WatchMode,
      (mode = 0#8 ∧ w = .off ∨ mode = 1#8 ∧ w = .once ∨ mode = 2#8 ∧ w = .periodic ∨ mode = 3#8 ∧ w = .onSwitch) ∧
      exec .watch s = .next (State.answered { s with host := { s.host with watch := { s.host.watch with
        mode := w, mask := mask.setWidth 6, period := period.toNat, counter := 0, triggered := [] } } } m 0#8 []))) ∧
  (∀ (s : State) (trigger : WatchTrigger) (rest : List WatchTrigger), s.Running →
    s.host.watch.triggered = trigger :: rest →
    let w := { s.host.watch with report := s.host.watch.report + 1#16, triggered := rest }
    let code : Byte := match trigger with | .once => 0#8 | .periodic => 1#8 | .rxChange => 2#8 | .txChange => 3#8
    let contents := le16 w.report ++ [code, w.mask.setWidth 8] ++ s.groups w.mask
    (s.host.outQueue.length ≤ 6 → exec .watchReport s = .next { s with host := { s.host with
      watch := w, outQueue := s.host.outQueue ++ [{ kind := 0x42#8, tag := 0#8, payload := contents }] } }) ∧
    (6 < s.host.outQueue.length →
      exec .watchReport s = .next ({ s with host := { s.host with watch := w } }.raise .watchDropped))) ∧
  (∀ (s t : State), s.Running → exec .watchReport s = .next t → s.assembleReports = t.assembleReports ∧
    (s.host.watch.triggered = [] → s.assembleReports = s ∧ t = s)) ∧
  (∀ s : State,
    let w := s.host.watch
    let becomes (x : WatchState) : State := { s with host := { s.host with watch := x } }
    (w.mode = .off ∨ w.mode = .onSwitch → s.watchEntry = s) ∧
    (w.mode = .once → s.watchEntry = becomes { w with mode := .off, triggered := w.triggered ++ [.once] }) ∧
    (w.mode = .periodic → w.counter + 1 < w.period → s.watchEntry = becomes { w with counter := w.counter + 1 }) ∧
    (w.mode = .periodic → w.period ≤ w.counter + 1 →
      s.watchEntry = becomes { w with counter := 0, triggered := w.triggered ++ [.periodic] }) ∧
    (∀ x : WatchTrigger,
      (w.mode = .onSwitch → s.watchSwitch x = becomes { w with triggered := w.triggered ++ [x] }) ∧
      (w.mode ≠ .onSwitch → s.watchSwitch x = s)))

/-- R181: a RESTART request is answered OK and no further request is taken. R148, R181: when the last byte of that
reply has been sent the restart takes effect: the link, the transmit side, the intake and the Host Link Unit take
their initial values, the calibration offsets, the tables, the settings, the fade log and the enables are kept (an
open fade is closed into the log, its exit run folded in), and the monitor runs on with its second degraded. It takes
effect at MESSAGE_SENT and at RESTART_TAKES_EFFECT alike: the two rows name one event (the model's choice, assumption
19). That the waiting reports are discarded and the watch's mask, period and counter become 0 is the model's choice
too (assumption 12). So are that the mode the last slot in RUN took is kept (assumption 35), and that the request has
left its place in the input buffer when it has been taken, not when it takes effect (assumption 37). -/
def Obligations.RestartAnswersAndTakesEffect : Prop :=
  ∀ s : State,
    (∀ m : Message, s.Ready m → m.kind = 0x13#8 → m.payload = [] → exec .restart s = .next
      (State.answered { s with host := { s.host with restarting := true } } m 0#8 [])) ∧
    (∀ m : Message, s.Running → s.host.restarting = true → s.host.outQueue.head? = some m → m.kind = 0x93#8 →
      m.payload = [0#8] → ∃ t, exec .messageSent s = .next t ∧ exec .restartTakesEffect s = .next t ∧
      t.table = { s.table with pendingSwap := none, farHalf0 := 1#8, mark0 := false, farHalf1 := 0#8,
                               mark1 := false, negotiated := 1#16 } ∧
      t.est = { s.est with s16 := none, hold := 0, starved := false, ring := [] } ∧
      t.decision = State.reset.decision ∧ t.hop = State.reset.hop ∧
      t.tx = { State.reset.tx with
        pilotTimer := if s.settings.pilotInterval = 0 then none else some s.settings.pilotInterval } ∧
      t.power = { State.reset.power with a := s.settings.attenMax, slotMode := s.power.slotMode } ∧
      t.link = { State.reset.link with cause := .restart } ∧
      t.intake = { s.intake with state := .idle, runLen := 0, badCount := 0, resyncCount := 0, silence := none } ∧
      t.monitor = { s.monitor with degraded := true } ∧
      t.host = { State.reset.host with
        enabled := s.host.enabled, rateCode := s.host.rateCode
        outQueue := [{ kind := 0x40#8, tag := 0#8, payload := [2#8] }] } ∧
      t.settings = s.settings ∧ t.fade.idCounter = s.fade.idCounter ∧ t.fade.openFade = none ∧
      (s.fade.openFade = none → t.fade.log = s.fade.log) ∧
      (∀ o, s.fade.openFade = some o → s.fade.log.length ≤ 32 → ∃ r, t.fade.log = newest 32 (s.fade.log ++ [r]) ∧
        r.ClosesOnLink o s.fade s.settings .restart ∧ t.fade.longMark = false))

/-! ## Records of the modem -/

/-- R150, R152: a record of an unknown code has no effect, and in IDLE every RX_METRICS record is ignored: it is not
checked, it makes no entry, and it does not load the silence timer. -/
def Obligations.IgnoredRecords : Prop :=
  (∀ (bytes : List Byte) (s : State), exec (.unknownRecord bytes) s = .next s) ∧
  (∀ (rest : List Byte) (s : State), s.intake.state = .idle → exec (.rxMetrics rest) s = .next s)

/-- R153, R154, R158: a record in SEARCH loads the silence timer. A good record extends the run it follows or starts a
run of 1, and a bad one ends it, with no entry. The good record that completes the run locks the intake: the next
number is expected, and the record is delivered as a resumed entry, the newest of the history ring. That the lock
keeps the RESYNC record count and the run's last number as they stood is the model's choice (assumption 22), and so are
that the intake's own items are written before the entry is handled (assumption 33), and that an RX_UNEXPECTED of R160
comes before the record's own entry (assumption 11). -/
def Obligations.SearchLocksAfterRun : Prop :=
  ∀ (rest : List Byte) (s : State), s.Running → s.intake.state = .search →
    let bs := 0xD1#8 :: rest
    let n := wordAt bs 1
    let run := if s.intake.runLen ≠ 0 ∧ n = s.intake.runLast + 1#16 then s.intake.runLen + 1 else 1
    (goodRecord 28 bs = false → exec (.rxMetrics rest) s = .next { s with intake := { s.intake with
      silence := some s.settings.recordTimeout, runLen := 0 } }) ∧
    (goodRecord 28 bs = true → run < s.settings.lockCount →
      exec (.rxMetrics rest) s = .next { s with intake := { s.intake with
        silence := some s.settings.recordTimeout, runLen := run, runLast := n } }) ∧
    (goodRecord 28 bs = true → s.settings.lockCount ≤ run → ∃ t, exec (.rxMetrics rest) s = .next t ∧
      State.Delivers { s with intake := { s.intake with
        state := .locked, expected := n + 1#16, runLen := 0, badCount := 0, silence := some s.settings.recordTimeout } }
        s.table.ownMask (parseMetrics bs) true t) ∧
    (goodRecord 28 bs = true → s.settings.lockCount ≤ run → s.link.state ≠ .run → ∃ t x,
      exec (.rxMetrics rest) s = .next t ∧
      t.intake = { s.intake with state := .locked, expected := n + 1#16, runLen := 0, badCount := 0,
                                 silence := some s.settings.recordTimeout } ∧
      t.est.ring = (x :: s.est.ring).take 512 ∧ x.frame = n ∧ x.resumed = true)

/-- R16, R154, R158, R160, R164, R168: a good record in LOCKED that is at most 3 ahead of the expected number. The bad
count becomes 0 and the number after the record's is expected (before the entries: the model's choice, assumption 33).
Then a held frame for each missing number and the record itself are delivered, none resumed; each is handled by each
of the ten blocks once, in an order that R16 allows (assumption 1), with watch reports between them where they may
come (assumption 30). That an RX_UNEXPECTED of R160 comes after the held frames of the gap and before the record's own
entry is the model's choice (assumption 11). With the watch counts short of link loss, which empties the ring (R144, R145), the ring gains
them in order. The monitor's part of an entry counts it, as held or uncorrectable where it is, and in RUN, in the
current bin, under r and with its S. -/
def Obligations.LockedRecordAdvances : Prop :=
  (∀ (rest : List Byte) (s : State), s.Running → s.intake.state = .locked →
    let bs := 0xD1#8 :: rest
    let n := wordAt bs 1
    let gap := (n - s.intake.expected).toNat
    goodRecord 28 bs = true → gap ≤ 3 → ∃ t, exec (.rxMetrics rest) s = .next t ∧
      t.intake = { s.intake with expected := n + 1#16, badCount := 0, silence := some s.settings.recordTimeout } ∧
      t.monitor.t = min 65535 (s.monitor.t + gap + 1) ∧
      (∃ u, State.HandlesHeld gap s.intake.expected { s with intake := t.intake } u ∧
        u.Delivers s.table.ownMask (parseMetrics bs) false t) ∧
      ((s.link.state = .run → s.link.missing + gap + 1 < 64 ∧ s.link.farWatch + 1 < 16) → ∃ new,
        t.est.ring = (new ++ s.est.ring).take 512 ∧ new.length = gap + 1 ∧
        (∀ k x, new[k]? = some x → x.frame = n - BitVec.ofNat 16 k ∧ x.resumed = false ∧ (0 < k → x.held = true)))) ∧
  ∀ (s : State) (v : EntryValues), ∃ counts : Vector Nat 16,
    (∀ p : Profile, counts[p] = if p = s.hop.r then min 4294967295 (s.monitor.current.perProfile[p] + 1)
      else s.monitor.current.perProfile[p]) ∧
    s.monitorEntry v = { s with monitor := { s.monitor with
      t := min 65535 (s.monitor.t + 1)
      h := min 65535 (s.monitor.h + if v.history.held then 1 else 0)
      u := min 65535 (s.monitor.u + if v.history.uncorrectable then 1 else 0)
      current := if s.link.state = .run then { s.monitor.current with
          perProfile := counts
          minS := some (match s.monitor.current.minS with | none => v.history.s | some x => min x v.history.s)
          maxS := some (match s.monitor.current.maxS with | none => v.history.s | some x => max x v.history.s) }
        else s.monitor.current } }

/-- R28, R154, R155, R156, R158: the other records in LOCKED. A repeated number is discarded. A bad check below
bad_limit makes one held entry, which bears the expected number; the number after it is expected, and the monitor
counts it as held. It is the newest of the ring (the hypothesis keeps out link loss, which empties the ring). At
bad_limit, and at a number that is neither at most 3 ahead nor the one before the expected, the intake enters RESYNC:
RESYNC is raised, the starved flag is set (STARVED when it was clear) and the second is degraded. That RESYNC is
raised before STARVED is the model's choice (assumption 11), and so is that the intake's own items are written before
the entry is handled (assumption 33). -/
def Obligations.LockedFaults : Prop :=
  ∀ (rest : List Byte) (s : State), s.Running → s.intake.state = .locked →
    let bs := 0xD1#8 :: rest
    let gap := (wordAt bs 1 - s.intake.expected).toNat
    let loaded := { s.intake with silence := some s.settings.recordTimeout }
    let resync : Host.Outcome State Fault Refusal := .next (({ s with
      intake := { loaded with state := .resync, runLen := 0, resyncCount := 0, badCount := 0 }
      est := { s.est with starved := true }
      monitor := { s.monitor with degraded := true } }.raise .resync).raiseIf (!s.est.starved) .starved)
    (goodRecord 28 bs = true → gap = 65535 →
      exec (.rxMetrics rest) s = .next { s with intake := { loaded with badCount := 0 } }) ∧
    (goodRecord 28 bs = true → 3 < gap → gap < 65535 → exec (.rxMetrics rest) s = resync) ∧
    (goodRecord 28 bs = false → s.settings.badLimit ≤ s.intake.badCount + 1 → exec (.rxMetrics rest) s = resync) ∧
    (goodRecord 28 bs = false → s.intake.badCount + 1 < s.settings.badLimit → ∃ t, exec (.rxMetrics rest) s = .next t ∧
      t.intake = { loaded with badCount := s.intake.badCount + 1, expected := s.intake.expected + 1#16 } ∧
      t.monitor.t = min 65535 (s.monitor.t + 1) ∧ t.monitor.h = min 65535 (s.monitor.h + 1) ∧
      State.HandlesHeld 1 s.intake.expected { s with intake := t.intake } t ∧
      ((s.link.state = .run → s.link.missing + 1 < 64 ∧ s.link.farWatch < 16) → ∃ x,
        t.est.ring = (x :: s.est.ring).take 512 ∧ x.frame = s.intake.expected ∧ x.held = true ∧ x.resumed = false))

/-- R140, R143, R146, R153, R157, R158: a record in RESYNC. The fourth good record in a run locks the intake, and is
delivered as a resumed entry (after the intake's own items are written, and after an RX_UNEXPECTED of R160: the
model's choices, assumptions 33 and 11), the newest of the ring (the hypothesis on the watch counts keeps out link
loss, which empties the ring). Otherwise the records
are counted, and past resync_limit the intake falls to SEARCH: in RUN that is link loss, in CAPS the link returns to
SYNC with the acquisition timer running on, and in SYNC and CONFIG the link stays. -/
def Obligations.ResyncRecords : Prop :=
  ∀ (rest : List Byte) (s : State), s.Running → s.intake.state = .resync →
    let bs := 0xD1#8 :: rest
    let n := wordAt bs 1
    let good := goodRecord 28 bs
    let run := if s.intake.runLen ≠ 0 ∧ n = s.intake.runLast + 1#16 then s.intake.runLen + 1 else 1
    let count := s.intake.resyncCount + 1
    let fallen : State := { s with
      intake := { s.intake with state := .search, runLen := 0, resyncCount := count
                                runLast := if good then n else s.intake.runLast
                                silence := some s.settings.recordTimeout }
      monitor := { s.monitor with degraded := true } }
    (good = true → 4 ≤ run → ∃ t, exec (.rxMetrics rest) s = .next t ∧
      t.intake = { s.intake with state := .locked, expected := n + 1#16, runLen := 0, runLast := n, badCount := 0,
                                 resyncCount := 0, silence := some s.settings.recordTimeout } ∧
      t.monitor.t = min 65535 (s.monitor.t + 1) ∧
      State.Delivers { s with intake := t.intake } s.table.ownMask (parseMetrics bs) true t ∧
      ((s.link.state = .run → s.link.missing + 1 < 64 ∧ s.link.farWatch + 1 < 16) → ∃ x,
        t.est.ring = (x :: s.est.ring).take 512 ∧ x.frame = n ∧ x.resumed = true)) ∧
    (good = true → run < 4 → count ≤ s.settings.resyncLimit →
      exec (.rxMetrics rest) s = .next { s with intake := { s.intake with
        silence := some s.settings.recordTimeout, runLen := run, runLast := n, resyncCount := count } }) ∧
    (good = false → count ≤ s.settings.resyncLimit →
      exec (.rxMetrics rest) s = .next { s with intake := { s.intake with
        silence := some s.settings.recordTimeout, runLen := 0, resyncCount := count } }) ∧
    ((good = false ∨ run < 4) → s.settings.resyncLimit < count →
      (s.link.state = .run → ∃ t, exec (.rxMetrics rest) s = .next t ∧ fallen.LosesLink t) ∧
      (s.link.state = .caps → exec (.rxMetrics rest) s = .next fallen.atSync) ∧
      (s.link.state = .sync ∨ s.link.state = .config → exec (.rxMetrics rest) s = .next fallen))

/-- R50, R78, R84, R85, R97, R103, R116, R133, R140, R143, R146, R156, R158: expiry of the silence timer. In LOCKED
the intake enters RESYNC with the timer loaded again, RESYNC is raised, the starved flag is set (STARVED when it was
clear, R28; in this order: assumption 11) and the second is degraded; in SEARCH the run ends; in RESYNC the intake
falls to SEARCH, with its silence timer stopped: in RUN that is link loss, in CAPS the link returns to SYNC with the
acquisition timer running on, and in SYNC the link stays. -/
def Obligations.SilenceExpiry : Prop :=
  ∀ s : State, s.Running → s.intake.silence.isSome →
    let fallen : State := { s with
      intake := { s.intake with state := .search, runLen := 0, silence := none }
      monitor := { s.monitor with degraded := true } }
    (s.intake.state = .search → exec .silenceTimerExpiry s = .next { s with
      intake := { s.intake with runLen := 0, silence := none } }) ∧
    (s.intake.state = .locked → exec .silenceTimerExpiry s = .next (({ s with
      intake := { s.intake with state := .resync, runLen := 0, resyncCount := 0, badCount := 0
                                silence := some s.settings.recordTimeout }
      est := { s.est with starved := true }
      monitor := { s.monitor with degraded := true } }.raise .resync).raiseIf (!s.est.starved) .starved)) ∧
    (s.intake.state = .resync →
      (s.link.state = .run → ∃ t, exec .silenceTimerExpiry s = .next t ∧ fallen.LosesLink t) ∧
      (s.link.state = .caps → exec .silenceTimerExpiry s = .next fallen.atSync) ∧
      (s.link.state = .sync → exec .silenceTimerExpiry s = .next fallen))

/-- R11, R139, R141, R142, R144, R145, R146: the passages of the link, and the far mask. The caps byte of a good
header replaces the half it names and sets its mark, and N is recomputed; profile 0 is stored as a member. Expiry of
the acquisition timer in SYNC or CAPS raises ACQ_TIMEOUT, enters SYNC afresh and loads the timer again; the intake
keeps its state. At an entry: in SYNC a good header takes the link to CAPS when the half it does not carry has its
mark set; in CAPS one that shows CAPS or RUN takes it to RUN, with LINK_UP, A at the backoff of profile 0 (R133, R131)
and the watch counts 0; in RUN a good header that shows SYNC or HALT counts for the far-phase watch and one that shows
CAPS or RUN clears its count, and an entry without a good header counts as missing and one with it clears that count;
at 16 or 64 the link is lost with the counts kept. Every other entry leaves the link alone. -/
def Obligations.LinkPassages : Prop :=
  (∀ s : State, s.Running → s.link.acqTimer.isSome → s.link.state = .sync ∨ s.link.state = .caps →
    exec .acqTimeout s = .next ({ s with
      link := { s.link with state := .sync, acqTimer := some s.settings.acqTimeout }
      table := { s.table with farHalf0 := 1#8, mark0 := false, farHalf1 := 0#8, mark1 := false, negotiated := 1#16 }
      est := { s.est with s16 := none, hold := 0, starved := false, ring := [] }
      hop := { s.hop with lane := State.reset.hop.lane, answer := State.reset.hop.answer, far := State.reset.hop.far }
      power := { s.power with request := .none }
      monitor := { s.monitor with degraded := true } }.raise .acqTimeout)) ∧
  (∀ (s : State) (m : Metrics), s.link.state = .sync →
    let other := if m.hcw.capsHalf then s.table.mark0 else s.table.mark1
    (other = true → s.linkEntry (some m) = { s with link := { s.link with state := .caps } }) ∧
    (other = false → s.linkEntry (some m) = s)) ∧
  (∀ (s : State) (m : Metrics), s.link.state = .caps →
    (m.hcw.phase = .caps ∨ m.hcw.phase = .run → s.linkEntry (some m) = { s with
      link := { s.link with state := .run, acqTimer := none, farWatch := 0, missing := 0 }
      power := { s.power with
        a := (s.table.active[(0 : Profile)]).backoff, rateCount := 0, request := .none
        heldA := if s.power.limit = LimitState.limited then some (s.table.active[(0 : Profile)]).backoff else s.power.heldA }
      }.raise .linkUp) ∧
    (m.hcw.phase = .sync ∨ m.hcw.phase = .halt → s.linkEntry (some m) = s)) ∧
  (∀ s : State, (s.link.state = .sync ∨ s.link.state = .caps → s.linkEntry none = s) ∧
    (s.link.state = .config → ∀ good, s.linkEntry good = s)) ∧
  (∀ s : State, s.takeFarMask none = s ∧ ∀ m : Metrics,
    let t := s.table
    (m.hcw.capsHalf = false → s.takeFarMask (some m) = { s with table := { t with
      farHalf0 := m.hcw.capsByte ||| 1#8, mark0 := true
      negotiated := if t.mark1 then t.ownMask &&& (t.farHalf1 ++ (m.hcw.capsByte ||| 1#8)) else 1#16 } }) ∧
    (m.hcw.capsHalf = true → s.takeFarMask (some m) = { s with table := { t with
      farHalf1 := m.hcw.capsByte, mark1 := true
      negotiated := if t.mark0 then t.ownMask &&& (m.hcw.capsByte ++ t.farHalf0) else 1#16 } })) ∧
  (∀ (s : State) (good : Option Metrics), s.link.state = .run →
    let far := match good with
      | none => s.link.farWatch
      | some m => if m.hcw.phase = .sync ∨ m.hcw.phase = .halt then s.link.farWatch + 1 else 0
    let missing := if good = none then s.link.missing + 1 else 0
    let counted : State := { s with link := { s.link with farWatch := far, missing := missing } }
    (far < 16 → missing < 64 → s.linkEntry good = counted) ∧
    (16 ≤ far ∨ 64 ≤ missing → counted.LosesLink (s.linkEntry good)))

/-! ## Slots -/

/-- R8, R10, R107, R113, R114, R117, R130, R131, R132, R133, R161: the descriptor of a slot outside RUN. In SYNC and
CAPS it shows the phase and is sent at profile 0 with the backoff of profile 0; in CONFIG it is the halt notice, at
the same attenuation, while the notice lasts, and muted at atten_max after it. The slot number is the record's, or the
expected one when the check is bad. After a SET of pilot_interval the pilot timer is loaded; otherwise it keeps its
value. The second of two asserted samples brings the limit into effect, and the second of two released samples ends it
(R130); held A then takes A as it stood, or as this slot sets it (R131 does not say which: a free value, assumption
31), or becomes absent (R132). The record returned is the twelve bytes of R184. A pending swap is tried at the slot
(State.trySwap, which PendingSwapAtEntry describes): before this work, which then finds the tables and A as the swap
leaves them, or after it (assumption 2). -/
def Obligations.SlotOutsideRun : Prop :=
  ∀ (rest : List Byte) (txlim : Bool) (s : State), s.Running → s.intake.sending = none → s.link.state ≠ .run →
    let bs := 0xD2#8 :: rest
    let slot (s t : State) : Prop :=
      let echo := if goodRecord 5 bs then wordAt bs 1 else s.tx.expectedSlot
      let muted := s.link.state = .config ∧ s.tx.haltCount = 0
      let d : Descriptor :=
        { echo := echo, profile := 0
          attenuation := if muted then s.settings.attenMax else (s.table.active[(0 : Profile)]).backoff
          mute := decide muted, pilot := false
          hcw := {
            phase := if s.link.state = .caps then .caps
                     else if s.link.state = .config ∧ s.tx.haltCount ≠ 0 then .halt else .sync
            askKind := .none, askSeq := s.hop.lane.seq, askProfile := 0, ansKind := .none, ansSeq := 0#3
            ansValue := 0#4, powerReq := .none, fade := false, capsHalf := s.tx.nextHalf
            capsByte := if s.tx.nextHalf then s.table.ownMask.extractLsb' 8 8 else s.table.ownMask.extractLsb' 0 8 } }
      let comes := txlim = true ∧ s.power.lastSample = some .asserted ∧ s.power.limit = .released
      let goes := txlim = false ∧ s.power.lastSample = some .released ∧ s.power.limit = .limited
      let load := if s.settings.pilotInterval = 0 then none else some s.settings.pilotInterval
      t.power.lastSample = some (if txlim then .asserted else .released) ∧
      (comes → t.power.limit = .limited ∧ t.hasFlag .txlimChange = true ∧
        (t.power.heldA = some s.power.a ∨ t.power.heldA = some d.attenuation)) ∧
      (goes → t.power.limit = .released ∧ t.power.heldA = none ∧ t.hasFlag .txlimChange = true) ∧
      (¬ comes → ¬ goes → t.power.limit = s.power.limit ∧ t.power.heldA = s.power.heldA) ∧
      t.intake = { s.intake with sending := some { descriptor := d, record := d.record } } ∧
      t.tx = { s.tx with
        expectedSlot := echo + 1#16, nextHalf := !s.tx.nextHalf, lastPilot := false, pilotReload := false
        pilotTimer := if s.tx.pilotReload then load else s.tx.pilotTimer
        haltCount := if s.link.state = .config then s.tx.haltCount - 1 else s.tx.haltCount } ∧
      t.power.a = d.attenuation ∧ t.power.rateCount = s.power.rateCount ∧ t.power.request = s.power.request ∧
      t.power.slotMode = s.power.slotMode ∧
      t.table = s.table ∧ t.est = s.est ∧ t.fade = s.fade ∧ t.decision = s.decision ∧
      t.hop = s.hop ∧ t.link = s.link ∧ t.monitor = s.monitor ∧ t.settings = s.settings
    (∃ t, exec (.txSlot rest txlim) s = .next t ∧ (s.table.pendingSwap = none → slot s t) ∧
      (slot s.trySwap t ∨ ∃ u, slot s u ∧ t = u.trySwap)) ∧
    (∀ x : Descriptor, ∃ bytes : List Byte, x.record = bytes ++ le16 (crc16 bytes) ∧
      bytes = [0xE1#8] ++ le16 x.echo ++ [BitVec.ofNat 8 x.profile.val, BitVec.ofNat 8 x.attenuation,
        if x.pilot then (if x.mute then 3#8 else 2#8) else (if x.mute then 1#8 else 0#8)] ++ le32 x.hcw.encode)

/-- R8, R82, R107, R109, R112, R117, R118, R119, R123, R128, R130, R131, R132: a slot in RUN, in a state that keeps
the table law. The descriptor's profile is the active profile after the slot and a member of N; it is not muted; its
attenuation is A, at least the backoff of its profile and at most atten_max. Its HCW carries the request lane's ask,
the current answer as it stands after the slot, the power request, the fade flag, and the half of the own mask that
the next caps half names, which then changes. The pilot timer falls, after a SET of pilot_interval from the new
interval, and where it ends a pilot is added to those owed. A pilot is sent exactly when one is owed then, no switch
is staged after step 3 (none was, or it is cancelled, dropped to or executed at this slot), the far end is in no fade
and the frame before was no pilot; it pays one of those owed. A follows the TXLIM limit: at its coming held A takes A
as it stood and the slot sends atten_max; at its going A becomes held A, in FIXED mode fixed_atten, clamped to the
floor and the ceiling; both raise TXLIM_CHANGE. The rate-limit counter, the receive side's blocks, the Performance
Monitor and the settings stay as they are. A pending swap is tried (State.trySwap, which PendingSwapAtEntry describes)
before this work, after it, or after steps 1 to 3 (State.slotSwitches; assumption 2). Where it fails there the slot is
as without it; where it succeeds nothing is staged, the active profile and the answer are as steps 1 to 3 leave them,
and steps 4 to 6 find the tables and A as the swap leaves them. -/
def Obligations.SlotInRunKeepsPowerBounds : Prop :=
  ∀ (rest : List Byte) (txlim : Bool) (s : State), s.Running → s.intake.sending = none → s.link.state = .run →
    s.TableLaw →
    let bs := 0xD2#8 :: rest
    let slot (s t : State) : Prop :=
      let load := if s.settings.pilotInterval = 0 then none else some s.settings.pilotInterval
      let timer := if s.tx.pilotReload then load else s.tx.pilotTimer
      let ends := ∃ n, timer = some n ∧ n ≤ 1
      let comes := txlim = true ∧ s.power.lastSample = some .asserted ∧ s.power.limit = .released
      let goes := txlim = false ∧ s.power.lastSample = some .released ∧ s.power.limit = .limited
      let l := s.hop.lane
      let ask : Option PendingAsk := if l.state = .asking ∨ l.state = .switching then l.pending else none
      let inN (p : Profile) : Prop := s.table.negotiated.getLsbD p.val = true
      let unstaged : Prop := ∀ g, s.tx.staged = some g → ¬ inN g.profile ∨ g.countdown ≤ 1 ∨
        (¬ inN s.tx.active ∧ g.profile < s.tx.active ∧ ∀ j : Profile, inN j → j < s.tx.active → j ≤ g.profile)
      ∃ d owed,
        t.intake = { s.intake with sending := some { descriptor := d, record := d.record } } ∧
        d.echo = (if goodRecord 5 bs then wordAt bs 1 else s.tx.expectedSlot) ∧
        d.profile = t.tx.active ∧ s.table.negotiated.getLsbD d.profile.val = true ∧ d.mute = false ∧
        d.attenuation = t.power.a ∧ (s.table.active[d.profile]).backoff ≤ d.attenuation ∧
        d.attenuation ≤ s.settings.attenMax ∧
        (ends → owed = min 8 (s.tx.owed + 1) ∧ t.tx.pilotTimer = load ∧
          (8 ≤ s.tx.owed + 1 → t.hasFlag .pilotOverdue = true)) ∧
        (¬ ends → owed = s.tx.owed ∧ t.tx.pilotTimer = timer.map (· - 1)) ∧ t.tx.pilotReload = false ∧
        (d.pilot = true ↔ 1 ≤ owed ∧ unstaged ∧ s.hop.far.fade = false ∧ s.tx.lastPilot = false) ∧
        t.tx.owed = (if d.pilot then owed - 1 else owed) ∧ (d.pilot = true → t.tx.staged = none) ∧
        t.tx.lastPilot = d.pilot ∧ t.tx.nextHalf = (!s.tx.nextHalf) ∧ t.tx.haltCount = s.tx.haltCount ∧
        t.hop.lane = l ∧ t.hop.r = s.hop.r ∧ t.hop.far = s.hop.far ∧ t.est = s.est ∧ t.fade = s.fade ∧
        t.decision = s.decision ∧ t.monitor = s.monitor ∧ t.settings = s.settings ∧
        t.power.rateCount = s.power.rateCount ∧ t.power.request = s.power.request ∧
        t.power.slotMode = s.settings.atpcMode ∧
        d.hcw = {
          phase := .run
          askKind := match ask with | none => .none | some a => if a.urgent then .urgent else .ask
          askSeq := l.seq, askProfile := match ask with | none => 0 | some a => a.profile
          ansKind := t.hop.answer.kind
          ansSeq := if t.hop.answer.kind = .none then 0#3 else t.hop.answer.seq
          ansValue := if t.hop.answer.kind = .none then 0#4 else t.hop.answer.value
          powerReq := s.power.request, fade := s.fade.openFade.isSome, capsHalf := s.tx.nextHalf
          capsByte := if s.tx.nextHalf then s.table.ownMask.extractLsb' 8 8 else s.table.ownMask.extractLsb' 0 8 } ∧
        t.tx.expectedSlot = d.echo + 1#16 ∧ t.link = s.link ∧ t.table = s.table ∧
        t.power.lastSample = some (if txlim then .asserted else .released) ∧
        (comes → t.power.limit = .limited ∧ t.power.heldA = some s.power.a ∧ t.hasFlag .txlimChange = true) ∧
        (goes → t.power.limit = .released ∧ t.power.heldA = none ∧ t.hasFlag .txlimChange = true) ∧
        (¬ comes → ¬ goes → t.power.limit = s.power.limit ∧ t.power.heldA = s.power.heldA) ∧
        (t.power.limit = .limited → d.attenuation = s.settings.attenMax) ∧
        (t.power.limit = .released → d.attenuation = max t.floor (min s.settings.attenMax
          (match s.settings.atpcMode with
           | .fixed => s.settings.fixedAtten
           | .auto => if goes then s.power.heldA.getD s.power.a else s.power.a)))
    ∃ t, exec (.txSlot rest txlim) s = .next t ∧ (s.table.pendingSwap = none → slot s t) ∧
      (slot s.trySwap t ∨ (∃ u, slot s u ∧ t = u.trySwap) ∨
        let fails := s.slotSwitches.trySwap.table.pendingSwap ≠ none
        (fails → slot s t) ∧
        (¬ fails → ∃ host, let x : State := { s.slotSwitches with host := host }
          slot x.trySwap t ∧ s.table.negotiated.getLsbD x.tx.active.val = true ∧ x.tx.staged = none ∧
          t.tx.active = x.tx.active ∧ t.hop.answer = x.hop.answer))

/-- R8, R102, R107 to R110, R131, R180: the switches at a slot in RUN. A staged switch to a profile that is no member
of N is cancelled, and its AGREE becomes DECLINE NOT_ENABLED. An active profile that is no member of N drops to the
highest member of N below it; a switch staged for that profile is then gone, as though executed. A switch still staged
counts down: above 1 the active profile stays, and from 1 the switch executes. The AGREE that staged it shows the
countdown as it stands, and 0 when it executes; another answer stays as it is. A switch to a higher profile that still
counts is removed when the TXLIM limit comes into effect at the slot, and its AGREE becomes DECLINE LIMITED. The
descriptor is sent under the active profile that is left. Each change of it raises TX_SWITCH, and in mode ON_SWITCH
triggers a report: the last report number and the reports that wait together rise by that many. N is read once, before
a pending swap is tried or after it (assumption 2). -/
def Obligations.StagedSwitchCountsDown : Prop :=
  ∀ (rest : List Byte) (txlim : Bool) (s : State), s.Running → s.intake.sending = none → s.link.state = .run →
    let moves (s t : State) : Prop :=
      let inN (p : Profile) : Prop := s.table.negotiated.getLsbD p.val = true
      let comes := txlim = true ∧ s.power.lastSample = some .asserted ∧ s.power.limit = .released
      let follows (g : StagedSwitch) (kind : AnswerKind) (value : BitVec 4) : AnswerLane :=
        if s.hop.answer.kind = .agree ∧ s.hop.answer.seq = g.seq then { s.hop.answer with kind := kind, value := value }
        else s.hop.answer
      let reports (x : State) : BitVec 16 := x.host.watch.report + BitVec.ofNat 16 x.host.watch.triggered.length
      let leaves (active : Profile) (staged : Option StagedSwitch) (answer : AnswerLane) (switches : Nat) : Prop :=
        ∃ d, t.intake.sending = some d ∧ d.descriptor.profile = active ∧
          t.tx.active = active ∧ t.tx.staged = staged ∧ t.hop.answer = answer ∧
          (0 < switches → t.hasFlag .txSwitch = true) ∧ (switches = 0 → t.hasFlag .txSwitch = s.hasFlag .txSwitch) ∧
          reports t = reports s + BitVec.ofNat 16 (if s.host.watch.mode = .onSwitch then switches else 0)
      let counts (active : Profile) (g : StagedSwitch) (switches : Nat) : Prop :=
        (2 ≤ g.countdown → ¬ (comes ∧ active < g.profile) → leaves active
          (some { g with countdown := g.countdown - 1 }) (follows g .agree (BitVec.ofNat 4 (g.countdown - 1))) switches) ∧
        (2 ≤ g.countdown → comes → active < g.profile → leaves active none (follows g .decline 4#4) switches) ∧
        (g.countdown ≤ 1 → leaves g.profile none (follows g .agree 0#4) (switches + 1))
      (inN s.tx.active →
        (s.tx.staged = none → leaves s.tx.active none s.hop.answer 0) ∧
        (∀ g, s.tx.staged = some g →
          (inN g.profile → counts s.tx.active g 0) ∧
          (¬ inN g.profile → leaves s.tx.active none (follows g .decline 2#4) 0))) ∧
      (¬ inN s.tx.active → ∀ p : Profile, inN p → p < s.tx.active → (∀ j : Profile, inN j → j < s.tx.active → j ≤ p) →
        (s.tx.staged = none → leaves p none s.hop.answer 1) ∧
        (∀ g, s.tx.staged = some g →
          (¬ inN g.profile → leaves p none (follows g .decline 2#4) 1) ∧
          (g.profile = p → leaves p none (follows g .agree 0#4) 1) ∧
          (inN g.profile → g.profile ≠ p → counts p g 1)))
    ∃ t, exec (.txSlot rest txlim) s = .next t ∧ (s.table.pendingSwap = none → moves s t) ∧
      (moves s t ∨ moves s.trySwap t)

/-- R161: a slot that arrives while a descriptor is being returned waits, and a further one is discarded. When the
descriptor has been sent the waiting slot is taken as one that arrives then, or the line falls idle. -/
def Obligations.SlotsWaitInTurn : Prop :=
  ∀ (rest : List Byte) (txlim : Bool) (s : State) (d : Sending), s.Running → s.intake.sending = some d →
    let bs := 0xD2#8 :: rest
    (s.intake.waiting = none → exec (.txSlot rest txlim) s = .next { s with intake := { s.intake with
      waiting := some { good := goodRecord 5 bs, number := wordAt bs 1 } } }) ∧
    (s.intake.waiting.isSome → exec (.txSlot rest txlim) s = .next s) ∧
    (s.intake.waiting = none → exec (.descriptorSent txlim) s = .next { s with intake := { s.intake with
      sending := none } }) ∧
    (s.intake.waiting = some { good := goodRecord 5 bs, number := wordAt bs 1 } →
      exec (.descriptorSent txlim) s =
        exec (.txSlot rest txlim) { s with intake := { s.intake with sending := none, waiting := none } } ∧
      ∃ t, exec (.descriptorSent txlim) s = .next t ∧ t.intake.sending.isSome ∧ t.intake.waiting = none)

/-! ## Timers of the request lane, and the second -/

/-- R47, R48, R59, R83 to R96: the Hop Signalling Unit at an entry. A good header replaces the far view; in RUN an rx
profile seen other than r becomes r, with RX_SWITCH, and completes the ask for it or raises RX_UNEXPECTED. A target
that differs from r starts an ask in STEADY, and in BACKOFF if urgent; in ASKING and SWITCHING it replaces the pending
ask where R94 and R95 say so; every other target is ignored. An ask takes a new number and loads the answer timer; an
urgent one counts in an open fade. A matching AGREE in ASKING loads the deadline, a matching DECLINE starts the
backoff, and every other answer is ignored. The timer of the lane's state falls by one at each entry in RUN, unless it
was loaded at that entry. The first two expiries of the answer timer renew the ask under a new number, the third gives
it up with HANDSHAKE_LOST; a missed switch raises SWITCH_MISSED; the end of the backoff returns the lane to STEADY.
(The rows of the expiries act whatever the timer shows: assumption 4. The order RX_SWITCH, RX_UNEXPECTED is assumption
11.) -/
def Obligations.RequestLaneMoves : Prop :=
  ∀ s : State,
    let l := s.hop.lane
    let next := if l.seq + 1#3 = s.hop.far.ansSeq then l.seq + 2#3 else l.seq + 1#3
    let steady := { l with state := .steady, pending := none, answerTimer := 0, deadline := 0, backoffTimer := 0,
                           timeouts := 0, fresh := false }
    let backOff (n : Nat) : RequestLane := { steady with state := .backoff, backoffTimer := n, fresh := true }
    let withLane (x : RequestLane) : State := { s with hop := { s.hop with lane := x } }
    let renewed : State := withLane { l with
      timeouts := l.timeouts + 1, answerTimer := s.settings.askTimeout, fresh := true, seq := next }
    let lost : State := (withLane (backOff s.settings.askBackoff)).raise .handshakeLost
    let missed : State := (withLane steady).raise .switchMissed
    (s.updateFar none = s ∧ ∀ m : Metrics, s.updateFar (some m) = { s with hop := { s.hop with far := {
      phase := m.hcw.phase, fade := m.hcw.fade, askKind := m.hcw.askKind, askSeq := m.hcw.askSeq
      askProfile := m.hcw.askProfile, ansKind := m.hcw.ansKind, ansSeq := m.hcw.ansSeq
      ansValue := m.hcw.ansValue, powerReq := m.hcw.powerReq } } }) ∧
    (s.link.state = .run → s.signal none = s.advanceInRun ∧ ∀ m : Metrics, s.signal (some m) =
      (((s.updateFar (some m)).followGood (some m)).examineGood (some m)).advanceInRun.examineAsk) ∧
    (s.link.state = .sync ∨ s.link.state = .caps → s.signal none = s ∧ ∀ m : Metrics,
      s.signal (some m) = (s.updateFar (some m)).examineAsk) ∧
    (s.link.state = .config → ∀ good, s.signal good = s) ∧
    (∀ m : Metrics, s.link.state = .run →
      let r := s.hop.r
      let new := m.rxProfile
      let completes := (l.state = .asking ∨ l.state = .switching) ∧ ∃ a, l.pending = some a ∧ a.profile = new
      let moved (lane : RequestLane) (urgent : Nat) : State := State.raise .rxSwitch { s with
        hop := { s.hop with r := new, lane := lane }
        decision := { s.decision with
          downDwell := 0, upDwell := 0, upCandidate := none, errorWindow := []
          holdoff := if new < r then s.settings.upHoldoff else s.decision.holdoff }
        fade := { s.fade with openFade := s.fade.openFade.map fun o =>
          if new < r then { o with downshifts := min 65535 (o.downshifts + 1), lowR := min o.lowR new } else o }
        monitor := { s.monitor with current := { s.monitor.current with
          downshifts := min 65535 (s.monitor.current.downshifts + if new < r then 1 else 0)
          upshifts := min 65535 (s.monitor.current.upshifts + if r < new then 1 else 0)
          urgents := min 65535 (s.monitor.current.urgents + urgent) } } }
      (new = r → s.followGood (some m) = s) ∧
      (new ≠ r →
        (∀ a, completes → l.pending = some a →
          s.followGood (some m) = (moved steady (if a.urgent then 1 else 0)).watchSwitch .rxChange) ∧
        (¬ completes → s.followGood (some m) = ((moved l 0).raise .rxUnexpected).watchSwitch .rxChange))) ∧
    (s.link.state = .run →
      (l.fresh = true ∨ l.state = .steady → s.advanceInRun = s) ∧
      (l.fresh = false →
        (l.state = .asking →
          (2 ≤ l.answerTimer → s.advanceInRun = withLane { l with answerTimer := l.answerTimer - 1 }) ∧
          (l.answerTimer ≤ 1 → s.advanceInRun = if l.timeouts < 2 then renewed else lost)) ∧
        (l.state = .switching →
          (2 ≤ l.deadline → s.advanceInRun = withLane { l with deadline := l.deadline - 1 }) ∧
          (l.deadline ≤ 1 → s.advanceInRun = missed)) ∧
        (l.state = .backoff →
          (2 ≤ l.backoffTimer → s.advanceInRun = withLane { l with backoffTimer := l.backoffTimer - 1 }) ∧
          (l.backoffTimer ≤ 1 → s.advanceInRun = withLane steady)))) ∧
    (∀ x : PendingAsk,
      let taken : State := { s with
        hop := { s.hop with lane := { steady with
          state := .asking, seq := next, pending := some x, answerTimer := s.settings.askTimeout, fresh := true } }
        fade := if x.urgent then { s.fade with openFade := s.fade.openFade.map fun o =>
          { o with urgents := min 65535 (o.urgents + 1) } } else s.fade }
      let displaces (a : PendingAsk) : Prop := x.profile = a.profile ∧ x.urgent = true ∧ a.urgent = false ∨
        x.profile ≠ a.profile ∧ (x.urgent = true ∨ x.profile < s.hop.r ∧ s.hop.r < a.profile)
      let covered (a : PendingAsk) : Prop := x.urgent = true ∧ a.profile < s.hop.r ∧ a.profile ≤ x.profile
      (x.profile = s.hop.r → s.handTarget x = s) ∧
      (x.profile ≠ s.hop.r →
        (l.state = .steady → s.handTarget x = taken) ∧
        (l.state = .backoff → s.handTarget x = if x.urgent then taken else s) ∧
        (∀ a, l.state = .asking → l.pending = some a →
          (displaces a → s.handTarget x = taken) ∧ (¬ displaces a → s.handTarget x = s)) ∧
        (∀ a, l.state = .switching → l.pending = some a →
          (displaces a → ¬ covered a → s.handTarget x = taken) ∧
          (¬ displaces a ∨ covered a → s.handTarget x = s)))) ∧
    (∀ m : Metrics, s.link.state = .run →
      let waits := l.state = .asking ∨ l.state = .switching
      let kind := s.hop.far.ansKind
      (¬ waits ∨ s.hop.far.ansSeq ≠ l.seq ∨ kind = .none ∨ (kind = .agree ∧ l.state = .switching) →
        s.examineGood (some m) = s) ∧
      (l.state = .asking → s.hop.far.ansSeq = l.seq → kind = .agree →
        s.examineGood (some m) = { s with hop := { s.hop with lane := { l with
          state := .switching, answerTimer := 0, timeouts := 0, fresh := true
          deadline := s.hop.far.ansValue.toNat + s.settings.switchGuard } } }) ∧
      (waits → s.hop.far.ansSeq = l.seq → kind = .decline →
        let urgent := ∃ a, l.pending = some a ∧ a.urgent = true
        (s.hop.far.ansValue = 5#4 → s.examineGood (some m) = { s with hop := { s.hop with lane := backOff 8 } }) ∧
        (s.hop.far.ansValue ≠ 5#4 → urgent →
          s.examineGood (some m) = { s with hop := { s.hop with lane := backOff 4 } }) ∧
        (s.hop.far.ansValue ≠ 5#4 → ¬ urgent → s.examineGood (some m) =
          { s with hop := { s.hop with lane := backOff s.settings.askBackoff } }))) ∧
    (s.Running →
      (l.state = .asking → exec .answerTimerExpiry s = .next (if l.timeouts < 2 then renewed else lost)) ∧
      (l.state = .switching → exec .switchMissed s = .next missed) ∧
      (l.state = .backoff → exec .backoffExpiry s = .next (withLane steady)))

/-- R164 to R168: a second ends. A degraded second, one without an entry, or one whose held and uncorrectable entries
reach ses_percent is SES; another with any of them is ES. With no run in progress a second that extends the state is
committed at once, with its own class when AVAILABLE and as unavailable when UNAVAILABLE, and one of the other kind
begins a run. A run that reaches unavail_run is committed whole on the other side, and AVAILABILITY_CHANGE is raised;
short of it a run is extended, and a second of the other kind breaks it: it is committed whole on its own side. As the
900th second of a bin ends the next bin opens, and the bin before it stays open until its last second is committed: it
is then appended to the closed ring, which keeps the newest 32, and BIN_CLOSED is raised. A 900th second that breaks
or completes a run closes its own bin so at once. Where one second raises both, BIN_CLOSED comes before
AVAILABILITY_CHANGE: that is the model's choice (assumption 11). -/
def Obligations.SecondEndCommits : Prop :=
  ∀ s : State, s.Running →
    let m := s.monitor
    let bad := m.u + m.h
    let cls : SecondClass :=
      if m.degraded = true ∨ m.t = 0 ∨ s.settings.sesPercent * m.t ≤ bad * 100 then .ses
      else if bad = 0 then .ok else .es
    let p : PendingSecond := { cls := cls, bin := m.current.number }
    let begun (x : Monitor) : Monitor := { x with
      t := 0, h := 0, u := 0, millis := 0, degraded := decide (s.intake.state ≠ .locked ∨ s.link.state ≠ .run) }
    let fresh (x : Monitor) : Monitor := { begun x with secondIndex := m.secondIndex + 1 }
    let uas (b : Bin) (n : Nat) : Bin := { b with seconds := b.seconds + n, uas := b.uas + n }
    let opened : Monitor := { m with
      current := { State.reset.monitor.current with number := (m.current.number + 1) % 2 ^ 32 }, secondIndex := 0 }
    let short := m.window.length + 1 < s.settings.unavailRun
    (m.secondIndex < 899 → m.earlier = none →
      (m.availability = .available → m.window = [] → cls ≠ .ses →
        exec .secondEnd s = .next { s with monitor := fresh { m with current := m.current.withSeconds [p] } }) ∧
      (m.availability = .available → m.window = [] → cls = .ses →
        exec .secondEnd s = .next { s with monitor := fresh { m with window := [p] } }) ∧
      (m.availability = .unavailable → m.window = [] → cls = .ses →
        exec .secondEnd s = .next { s with monitor := fresh { m with current := uas m.current 1 } }) ∧
      (m.availability = .unavailable → m.window = [] → cls ≠ .ses →
        exec .secondEnd s = .next { s with monitor := fresh { m with window := [p] } }) ∧
      (m.availability = .available → m.window ≠ [] → cls = .ses → s.settings.unavailRun ≤ m.window.length + 1 →
        exec .secondEnd s = .next ({ s with monitor := fresh { m with
          window := [], availability := .unavailable, current := uas m.current (m.window.length + 1) } }.raise
            .availabilityChange)) ∧
      (m.availability = .unavailable → m.window ≠ [] → cls ≠ .ses → s.settings.unavailRun ≤ m.window.length + 1 →
        exec .secondEnd s = .next ({ s with monitor := fresh { m with
          window := [], availability := .available, current := m.current.withSeconds (m.window ++ [p]) } }.raise
            .availabilityChange)) ∧
      (m.window ≠ [] → (m.availability = .available ↔ cls = .ses) → short →
        exec .secondEnd s = .next { s with monitor := fresh { m with window := m.window ++ [p] } }) ∧
      (m.availability = .available → m.window ≠ [] → cls ≠ .ses →
        exec .secondEnd s = .next { s with monitor := fresh { m with
          window := [], current := m.current.withSeconds (m.window ++ [p]) } }) ∧
      (m.availability = .unavailable → m.window ≠ [] → cls = .ses →
        exec .secondEnd s = .next { s with monitor := fresh { m with
          window := [], current := uas m.current (m.window.length + 1) } })) ∧
    (m.secondIndex = 899 → m.earlier = none →
      (m.window = [] → m.current.seconds = 899 → m.closed.length ≤ 32 → (m.availability = .available ↔ cls ≠ .ses) →
        exec .secondEnd s = .next ({ s with monitor := begun { opened with closed := newest 32 (m.closed ++
          [if m.availability = Availability.available then m.current.withSeconds [p] else uas m.current 1]) } }.raise .binClosed)) ∧
      ((m.availability = .available ↔ cls = .ses) → m.window = [] ∨ short →
        exec .secondEnd s = .next { s with monitor := begun { opened with
          earlier := some m.current, window := m.window ++ [p] } }) ∧
      (m.window ≠ [] → (∀ x ∈ m.window, x.bin = m.current.number) → m.current.seconds + m.window.length = 899 →
        m.closed.length ≤ 32 →
        let closing (b : Bin) (a : Availability) : State := State.raise .binClosed { s with monitor := begun { opened with
          window := [], availability := a, closed := newest 32 (m.closed ++ [b]) } }
        let own := m.current.withSeconds (m.window ++ [p])
        let lost := uas m.current (m.window.length + 1)
        (m.availability = .available → cls ≠ .ses → exec .secondEnd s = .next (closing own .available)) ∧
        (m.availability = .available → cls = .ses → ¬ short →
          exec .secondEnd s = .next ((closing lost .unavailable).raise .availabilityChange)) ∧
        (m.availability = .unavailable → cls = .ses → exec .secondEnd s = .next (closing lost .unavailable)) ∧
        (m.availability = .unavailable → cls ≠ .ses → ¬ short →
          exec .secondEnd s = .next ((closing own .available).raise .availabilityChange)))) ∧
    (∀ b : Bin, m.secondIndex < 899 → m.earlier = some b → b.number ≠ m.current.number → m.closed.length ≤ 32 →
      ∀ w new : List PendingSecond, m.window = w ++ new → w ≠ [] → (∀ x ∈ w, x.bin = b.number) →
      (∀ x ∈ new, x.bin = m.current.number) → b.seconds + w.length = 900 →
      let closing (own other : Bin) (a : Availability) : State := { s with monitor := fresh { m with
        window := [], earlier := none, current := other, closed := newest 32 (m.closed ++ [own]), availability := a } }
      (m.availability = .available → cls ≠ .ses → exec .secondEnd s = .next
        ((closing (b.withSeconds w) (m.current.withSeconds (new ++ [p])) .available).raise .binClosed)) ∧
      (m.availability = .available → cls = .ses → s.settings.unavailRun ≤ m.window.length + 1 →
        exec .secondEnd s = .next (((closing (uas b w.length) (uas m.current (new.length + 1)) .unavailable).raise
          .binClosed).raise .availabilityChange)) ∧
      (m.availability = .unavailable → cls = .ses → exec .secondEnd s = .next
        ((closing (uas b w.length) (uas m.current (new.length + 1)) .unavailable).raise .binClosed)) ∧
      (m.availability = .unavailable → cls ≠ .ses → s.settings.unavailRun ≤ m.window.length + 1 →
        exec .secondEnd s = .next (((closing (b.withSeconds w) (m.current.withSeconds (new ++ [p])) .available).raise
          .binClosed).raise .availabilityChange)) ∧
      ((m.availability = .available ↔ cls = .ses) → short →
        exec .secondEnd s = .next { s with monitor := fresh { m with window := m.window ++ [p] } }))

/-! ## The blocks at an entry -/

/-- R17 to R27, R29, R30, R32, R33: the Estimator at an entry, stage by stage. The entry is held when no branch that
div_mode uses is valid. The corrected values are combined by logarithmic addition, or the in-use branch stands alone;
E is the combined value less the penalty. S16 starts at 16 E, and moves toward it by smooth_down or smooth_up without
passing it. The slope looks back eight entries and across no resumed one; the prediction extends a fall by the
horizon. A held entry carries the values of the entry before it; its count starves the Estimator at hold_limit. A
pilot outside a fade moves the offset of each valid branch by at most 5. The entry becomes the newest of the ring.
in_fade is the fade flag; at the first entry after a RECOVERED close it is open (assumption 29). The pilot test reads
the fade flag itself, as the entry before left it (R29, R52). Nothing else changes but STARVED. -/
def Obligations.EstimatorHandlesEntry : Prop :=
  (∀ e down up : Nat, smoothStep none e down up = 16 * e ∧
    ∀ v : Nat, let w := smoothStep (some v) e down up
      (v ≤ 16 * e → v ≤ w ∧ w ≤ 16 * e) ∧ (16 * e < v → 16 * e ≤ w ∧ w < v)) ∧
  ∀ (s : State) (e : Entry),
    let est := s.est
    let set := s.settings
    let t := (s.estimate e).1
    let v := (s.estimate e).2
    let unusable (m : Metrics) : Prop := match set.divMode with
      | .combine | .select => m.mainValid = false ∧ m.spaceValid = false
      | .main => m.mainValid = false
      | .space => m.spaceValid = false
    let held := ∀ m, e.record = some m → unusable m
    let rises := t.est.starved = true ∧ est.starved = false
    (rises → t = { s with est := t.est }.raise .starved) ∧ (¬ rises → t = { s with est := t.est }) ∧
    ∃ x : HistoryEntry, t.est.ring = (x :: est.ring).take 512 ∧ v.history = x ∧
      v.prevFrame = est.ring.head?.map HistoryEntry.frame ∧ x.frame = e.frame ∧ x.resumed = e.resumed ∧
      (x.held = true ↔ held) ∧ (x.headerValid = true ↔ e.headerValid = true ∧ ¬ held) ∧
      (s.fade.openFade.isSome → x.inFade = true) ∧
      (s.fade.openFade = none → s.fade.justClosed = false → x.inFade = false) ∧
      (e.record = none → x.rxProfile = none ∧ x.pilot = false ∧ x.mainValid = false ∧ x.spaceValid = false ∧
        x.uncorrectable = false) ∧
      (∀ m, e.record = some m → x.rxProfile = (if x.headerValid then some m.rxProfile else none) ∧
        x.pilot = m.pilot ∧ x.mainValid = m.mainValid ∧ x.spaceValid = m.spaceValid ∧
        x.uncorrectable = m.uncorrectable) ∧
      (held → v.stress = none ∧ t.est.s16 = est.s16 ∧ t.est.offMain = est.offMain ∧ t.est.offSpace = est.offSpace ∧
        t.est.hold = min 255 (est.hold + 1) ∧
        (t.est.starved = true ↔ est.starved = true ∨ set.holdLimit ≤ t.est.hold) ∧
        (est.ring = [] → x.e = 0 ∧ x.s = 0 ∧ x.p = 0 ∧ x.d = 0 ∧ x.rsl = -400) ∧
        (∀ y older, est.ring = y :: older → x.e = y.e ∧ x.s = y.s ∧ x.rsl = y.rsl ∧
          (e.resumed = true → x.d = 0 ∧ x.p = y.s) ∧ (e.resumed = false → x.d = y.d ∧ x.p = y.p))) ∧
      (∀ m, e.record = some m → ¬ unusable m →
        let fit (lo hi n : Int) : Int := max lo (min hi n)
        let main := (fit 0 500 (m.main.snr + est.offMain)).toNat
        let space := (fit 0 500 (m.space.snr + est.offSpace)).toNat
        let useMain := set.divMode = .main ∨
          set.divMode ≠ .space ∧ m.mainValid = true ∧ (m.spaceValid = false ∨ space ≤ main)
        let both := set.divMode = .combine ∧ m.mainValid = true ∧ m.spaceValid = true
        let high := max main space
        let gain := [30, 25, 21, 18, 15, 12, 10, 8, 6, 5, 4, 3, 3, 2, 2, 1].getD ((high - min main space) / 10) 0
        let snr := if both then min 500 (high + gain) else if useMain then main else space
        let stress := if useMain then m.main.stress else m.space.stress
        let offset (valid : Bool) (b : Branch) (o : Int) : Int :=
          if m.pilot = true ∧ s.fade.openFade = none ∧ valid = true then
            fit (-50) 50 (o + fit (-5) 5 ((b.pilotSnr : Int) - (b.snr + o)))
          else o
        v.stress = some stress ∧ t.est.hold = 0 ∧ t.est.starved = false ∧
        t.est.offMain = offset m.mainValid m.main est.offMain ∧
        t.est.offSpace = offset m.spaceValid m.space est.offSpace ∧
        x.rsl = (if both then max m.main.rsl m.space.rsl else if useMain then m.main.rsl else m.space.rsl) ∧
        x.e = min 500 (snr - stress * set.stressWeight / 64) ∧
        (∃ w, t.est.s16 = some w ∧ x.s = w / 16 ∧ (est.s16 = none → w = 16 * x.e) ∧
          ∀ old, est.s16 = some old →
            (16 * x.e < old → (w : Int) = old + (16 * x.e - old) / 2 ^ set.smoothDown) ∧
            (old ≤ 16 * x.e → (w : Int) = old + (16 * x.e - old) / 2 ^ set.smoothUp)) ∧
        (est.ring.length < 8 ∨ e.resumed = true ∨ (∃ y ∈ est.ring.take 7, y.resumed = true) → x.d = 0) ∧
        (∀ y, est.ring[7]? = some y → e.resumed = false → (∀ z ∈ est.ring.take 7, z.resumed = false) →
          x.d = (x.s : Int) - y.s) ∧
        (x.p : Int) = max 0 (x.s + min 0 (x.d * set.horizon / 8)))

/-- R39 to R46, R49, R53, R168: the Fade Tracker at an entry, which it handles in RUN only. An entry added to a run or
to the record adds its frames, its S and, when not held, its stress; a resumed entry adds the gap before it too (none,
where the ring holds no entry before it: assumption 13). In CLEAR an entry whose depth reaches fade_enter extends the
run, and the one that completes fade_persist opens a fade with what the run holds: the next id, the frame of the run's
first entry, r, FADE_START, and one more fade in the current bin; at the wrap of the id the log is emptied. A
shallower entry ends the run. In IN_FADE an entry of depth at most fade_exit extends the exit run; the one that
completes fade_persist closes the fade as RECOVERED with the record as it stood before the exit run, its depth and
kind set, appended to the newest 32 of the log, FADE_END raised and both runs empty. Any other entry folds the exit
run and then itself into the record (assumption 3 at the limit of the stress count). LONG_FADE is raised once, when
the record's duration reaches fade_limit: at the opening entry, at each later one, and at the one that closes the fade
(assumption 24). -/
def Obligations.FadeOpensAndCloses : Prop :=
  ∀ (s : State) (v : EntryValues),
    let t := s.trackFade v
    let f := s.fade
    let gap := match v.prevFrame with | none => 0 | some p => (v.history.frame - p - 1#16).toNat
    let frames := if v.history.resumed then 1 + gap else 1
    let takes (n : Nat) : Bool := v.stress.isSome && decide (n < 16777215)
    let plus (a : RunAccumulators) (n : Nat) : RunAccumulators :=
      { duration := min 4294967295 (a.duration + n), lowS := min a.lowS v.history.s
        stressSum := if takes a.stressCount then a.stressSum + v.stress.getD 0 else a.stressSum
        stressCount := if takes a.stressCount then a.stressCount + 1 else a.stressCount }
    let nothing : RunAccumulators := { duration := 0, lowS := 500, stressSum := 0, stressCount := 0 }
    (s.link.state ≠ .run → t = s) ∧
    (s.link.state = .run → f.openFade = none →
      let first := if f.entryLen = 0 then v.history.frame else f.entryFirst
      let run := if f.entryLen = 0 then plus nothing 1 else plus f.entryAcc frames
      (v.history.s + s.settings.fadeEnter ≤ s.settings.clearSky → s.settings.fadePersist ≤ f.entryLen + 1 →
        let id := if f.idCounter < 4294967295 then f.idCounter + 1 else 1
        t.fade.openFade = some { id := id, start := first, duration := run.duration, minS := run.lowS
                                 rOpen := s.hop.r, lowR := s.hop.r, downshifts := 0, urgents := 0
                                 stressSum := run.stressSum, stressCount := run.stressCount } ∧
        t.fade.idCounter = id ∧ t.fade.entryLen = 0 ∧ t.fade.exitLen = 0 ∧ t.hasFlag .fadeStart = true ∧
        t.monitor = { s.monitor with current := { s.monitor.current with
          fades := min 65535 (s.monitor.current.fades + 1) } } ∧
        (f.idCounter < 4294967295 → t.fade.log = f.log) ∧
        (4294967295 ≤ f.idCounter → t.fade.log = [] ∧ (f.log ≠ [] → t.hasFlag .fadeLogDrop = true)) ∧
        (s.settings.fadeLimit ≤ run.duration → t.fade.longMark = true ∧ t.hasFlag .longFade = true) ∧
        (run.duration < s.settings.fadeLimit →
          t.fade.longMark = false ∧ t.hasFlag .longFade = s.hasFlag .longFade)) ∧
      (v.history.s + s.settings.fadeEnter ≤ s.settings.clearSky → f.entryLen + 1 < s.settings.fadePersist →
        t = { s with fade := { f with
          entryLen := f.entryLen + 1, entryFirst := first, entryAcc := run, justClosed := false } }) ∧
      (0 < s.settings.fadeEnter → s.settings.clearSky < v.history.s + s.settings.fadeEnter →
        t.fade.openFade = none ∧ t.fade.entryLen = 0 ∧ t.host = s.host ∧ t.monitor = s.monitor)) ∧
    (∀ o : OpenFade, s.link.state = .run → f.openFade = some o →
      let shallow := s.settings.clearSky ≤ v.history.s + s.settings.fadeExit
      let long (d : Nat) : Prop :=
        (f.longMark = false → s.settings.fadeLimit ≤ d → t.fade.longMark = true ∧ t.hasFlag .longFade = true) ∧
        (f.longMark = true ∨ d < s.settings.fadeLimit →
          t.fade.longMark = f.longMark ∧ t.hasFlag .longFade = s.hasFlag .longFade)
      (shallow → s.settings.fadePersist ≤ f.exitLen + 1 → f.log.length ≤ 32 → long o.duration ∧
        t.fade.openFade = none ∧ t.fade.entryLen = 0 ∧ t.fade.exitLen = 0 ∧ t.fade.idCounter = f.idCounter ∧
        t.hasFlag .fadeEnd = true ∧ (32 ≤ f.log.length → t.hasFlag .fadeLogDrop = true) ∧
        (f.log.length < 32 → t.hasFlag .fadeLogDrop = s.hasFlag .fadeLogDrop) ∧
        ∃ r, t.fade.log = newest 32 (f.log ++ [r]) ∧ r.Closes o s.settings .recovered) ∧
      (shallow → f.exitLen + 1 < s.settings.fadePersist → long o.duration ∧
        t.fade.openFade = some o ∧ t.fade.exitLen = f.exitLen + 1 ∧ t.fade.log = f.log ∧
        t.fade.exitAcc = if f.exitLen = 0 then plus nothing frames else plus f.exitAcc frames) ∧
      (¬ shallow → ∃ o', o.FoldsTo f o' ∧
        let d := min 4294967295 (o'.duration + frames)
        long d ∧ t.fade.exitLen = 0 ∧ t.fade.log = f.log ∧
        t.fade.openFade = some { o' with
          duration := d, minS := min o'.minS v.history.s
          stressSum := if takes o'.stressCount then o'.stressSum + v.stress.getD 0 else o'.stressSum
          stressCount := if takes o'.stressCount then o'.stressCount + 1 else o'.stressCount }))

/-- R57, R60 to R71, R73 to R75: the Decision Unit at an entry, with N holding profile 0. First the holdoff falls, the
error window of 8 takes the entry, and the down dwell counts the entries below the leaving threshold of r. Then the
first rule that applies gives the result: STARVED, URGENT, OUT_OF_SET or PINNED, DOWNSHIFT, ERROR, UPSHIFT, each with
its condition, its target and its urgency, and NONE otherwise. Where rules 1 to 5 do not apply in AUTO and CEILING,
the up candidate and the up dwell follow R69; elsewhere they are cleared. So every target but r itself lies in N, only
STARVED and URGENT are urgent, and under CEILING c no target, NONE's own r included, is above c. In RUN the unit
handles each entry with the values as they stand, and hands on a target that differs from r; in every other link state
it takes none. That the request lane takes it in the same action is the model's choice (assumption 36). -/
def Obligations.DecisionTargets : Prop :=
  (∀ (u : DecisionUnit) (i : DecisionInput), inSet i.negotiated 0 = true →
    let t := u.handle i
    let inN (p : Profile) : Prop := i.negotiated.getLsbD p.val = true
    let tDown (p : Profile) : Nat := (i.table[p]).tDown
    let highest (j : Profile) (meets : Profile → Prop) : Prop := inN j ∧ meets j ∧ ∀ k, inN k → meets k → k ≤ j
    let down (j : Profile) : Prop := highest j (fun k => k < i.r ∧ tDown k < i.p) ∨
      j = 0 ∧ ∀ k, inN k → k < i.r → i.p ≤ tDown k
    let below (j : Profile) : Prop := highest j (fun k => k < i.r)
    let upTo (c j : Profile) : Prop := highest j (fun k => k ≤ c)
    let above (c : Profile) : Prop := u.force = .ceiling c ∧ c < i.r
    let errors := t.errorWindow.count true
    let urgent := i.set.urgentMargin ≤ tDown i.r ∧ i.p < tDown i.r - i.set.urgentMargin
    let calm := i.starved = false ∧ ¬ urgent
    let free := calm ∧ ∀ p, u.force ≠ .pinned p
    let outside := ¬ inN i.r ∨ ∃ c, above c
    let failing := i.set.errorOverride = true ∧ 2 ≤ errors ∧ 0 < i.r
    let rising := free ∧ ¬ outside ∧ t.downDwell < i.set.downDwell ∧ ¬ failing
    (t.force = u.force ∧ t.holdoff = u.holdoff - 1 ∧
      t.errorWindow = (if u.errorWindow.length < 8 then u.errorWindow else u.errorWindow.tail) ++ [i.uncorrectable] ∧
      t.downDwell = if i.p < tDown i.r then min 15 (u.downDwell + 1) else 0) ∧
    (∃ res, t.last = some res ∧
      (i.starved = true → res = { rule := .starved, target := 0, urgent := true }) ∧
      (i.starved = false → urgent → res.rule = .urgent ∧ res.urgent = true ∧ ∃ j, down j ∧
        ((∀ c, u.force = .ceiling c → j ≤ c) → res.target = j) ∧
        (∀ c, u.force = .ceiling c → c < j → upTo c res.target)) ∧
      (∀ p, calm → u.force = .pinned p → res.rule = .pinned ∧ res.urgent = false ∧ upTo p res.target) ∧
      (free → outside → res.rule = .outOfSet ∧ res.urgent = false ∧ (∀ c, above c → upTo c res.target) ∧
        ((∀ c, ¬ above c) → below res.target)) ∧
      (free → ¬ outside → i.set.downDwell ≤ t.downDwell →
        res.rule = .downshift ∧ res.urgent = false ∧ down res.target) ∧
      (free → ¬ outside → t.downDwell < i.set.downDwell → failing →
        res.rule = .error ∧ res.urgent = false ∧ below res.target) ∧
      (rising → (∀ j, t.upCandidate = some j → i.set.upDwell ≤ t.upDwell →
          res = { rule := .upshift, target := j, urgent := false }) ∧
        (t.upCandidate = none ∨ t.upDwell < i.set.upDwell →
          res = { rule := .none, target := i.r, urgent := false })) ∧
      (inN res.target ∨ res.rule = .none ∧ res.target = i.r) ∧
      (res.urgent = true ↔ res.rule = .starved ∨ res.rule = .urgent) ∧
      (∀ c, u.force = .ceiling c → res.target ≤ c)) ∧
    (¬ rising → t.upCandidate = none ∧ t.upDwell = 0) ∧
    (rising →
      (∀ j, t.upCandidate = some j ↔ inN j ∧ i.r < j ∧ (∀ k, inN k → i.r < k → j ≤ k) ∧
        ∀ c, u.force = .ceiling c → j ≤ c) ∧
      let counts := (∃ j, t.upCandidate = some j ∧ (i.table[j]).tUp ≤ i.s) ∧ t.holdoff = 0 ∧ i.fade = false ∧
        errors = 0 ∧ t.downDwell = 0
      (counts → t.upDwell = min 4095 ((if t.upCandidate = u.upCandidate then u.upDwell else 0) + 1)) ∧
      (¬ counts → t.upDwell = 0))) ∧
  ∀ (s : State) (v : EntryValues), (s.link.state ≠ .run → s.runDecision v = s) ∧
    (s.link.state = .run → ∃ res,
      let u := s.decision.handle { s := v.history.s, p := v.history.p, uncorrectable := v.history.uncorrectable
                                   starved := s.est.starved, fade := s.fade.openFade.isSome, r := s.hop.r
                                   negotiated := s.table.negotiated, table := s.table.active, set := s.settings }
      u.last = some res ∧ s.runDecision v = (if res.target = s.hop.r then { s with decision := u }
        else State.handTarget { s with decision := u } { profile := res.target, urgent := res.urgent }))

/-- R98, R99, R100: the answer to a far ask. A number already taken is a duplicate and changes nothing, and an ask of
kind NONE does nothing; a new one is taken, and its answer carries its number. Outside RUN it is DECLINE HALTED. An
ask of kind ASK is answered by the first of R99's items that applies: NOT_ENABLED, AGREE with 0 for the active
profile, BUSY, LIMITED, PILOT_DUE, POWER_LOW, and otherwise AGREE with switch_lead, the switch staged for that many
slots. An URGENT ask is for the highest member of N not above its profile: above the active profile it is answered as
ASK, for the active profile any staged switch is removed with AGREE 0, and below it the switch is staged for the next
slot with AGREE 1. A DECLINE leaves the transmit record as it is. -/
def Obligations.AskIsAnsweredOnce : Prop :=
  ∀ s : State,
    let q := s.hop.far.askSeq
    let kind := s.hop.far.askKind
    let answered (k : AnswerKind) (value : BitVec 4) (staged : Option StagedSwitch) : Prop :=
      s.examineAsk = { s with
        hop := { s.hop with answer := { lastTaken := some q, kind := k, seq := q, value := value } }
        tx := { s.tx with staged := staged } }
    let declined (reason : BitVec 4) : Prop := answered .decline reason s.tx.staged
    let judged (p : Profile) : Prop :=
      let enabled := s.table.negotiated.getLsbD p.val = true
      let idle := enabled ∧ s.tx.staged = none ∧ p ≠ s.tx.active
      (¬ enabled → declined 2#4) ∧
      (enabled → p = s.tx.active → s.tx.staged = none → answered .agree 0#4 none) ∧
      (enabled → s.tx.staged ≠ none → declined 3#4) ∧
      (idle → s.power.limit = .limited → declined 4#4) ∧
      (idle → s.power.limit = .released →
        (s.tx.active < p → 4 ≤ s.tx.owed → declined 5#4) ∧
        (¬ (s.tx.active < p ∧ 4 ≤ s.tx.owed) →
          (s.power.a < (s.table.active[p]).backoff → declined 6#4) ∧
          ((s.table.active[p]).backoff ≤ s.power.a → answered .agree (BitVec.ofNat 4 s.settings.switchLead)
            (some { profile := p, countdown := s.settings.switchLead, seq := q }))))
    (s.hop.answer.lastTaken = some q ∨ kind = .none → s.examineAsk = s) ∧
    (s.hop.answer.lastTaken ≠ some q →
      (kind ≠ .none → s.link.state ≠ .run → declined 1#4) ∧
      (kind = .ask → s.link.state = .run → judged s.hop.far.askProfile) ∧
      (kind = .urgent → s.link.state = .run → ∀ p : Profile, s.table.negotiated.getLsbD p.val = true →
        p ≤ s.hop.far.askProfile →
        (∀ j : Profile, s.table.negotiated.getLsbD j.val = true → j ≤ s.hop.far.askProfile → j ≤ p) →
        (s.tx.active < p → judged p) ∧ (p = s.tx.active → answered .agree 0#4 none) ∧
        (p < s.tx.active → answered .agree 1#4 (some { profile := p, countdown := 1, seq := q }))))

/-- R123 to R127, R133: power requests at an entry. In RUN the receive side sets the outgoing request: FAST_UP when
starved or when the in-use RSL is more than 20 below rsl_low, UP below rsl_low, DOWN above rsl_high outside a fade,
and NONE otherwise. The far end's request, in AUTO with no limit in effect, acts when the rate-limit counter has come
to 0, or, for UP and FAST_UP, when the far end is in a fade: A becomes A - 1, A - 3, A + 1 or A, clamped to the floor
and the ceiling as they stand, also where A lies outside them, as after a SET of atten_max, and a change of A loads
the counter; otherwise A stays and the counter falls. From within the bounds A moves by at most 3. Outside RUN neither
side changes anything. The mode is atpc_mode as it is set or as the last slot in RUN took it: where the two differ,
between a SET and the next slot in RUN, R134 and R129 disagree, and the statement holds for either (a free value,
assumption 35). -/
def Obligations.PowerRequestsAtEntry : Prop :=
  (∀ (s : State) (v : EntryValues), s.link.state = .run →
    let request (x : PowerRequest) : Prop := s.powerReceive v = { s with power := { s.power with request := x } }
    (s.est.starved = true ∨ v.history.rsl < s.settings.rslLow - 20 → request .fastUp) ∧
    (s.est.starved = false →
      (s.settings.rslLow - 20 ≤ v.history.rsl → v.history.rsl < s.settings.rslLow → request .up) ∧
      (s.settings.rslLow ≤ v.history.rsl →
        (s.settings.rslHigh < v.history.rsl → s.fade.openFade = none → request .down) ∧
        (v.history.rsl ≤ s.settings.rslHigh ∨ s.fade.openFade.isSome → request .none)))) ∧
  (∀ (s : State) (good : Option Metrics), s.link.state = .run →
    ∃ mode, (mode = s.settings.atpcMode ∨ mode = s.power.slotMode) ∧
    let t := s.powerTransmit good
    let floor : Nat := match s.tx.staged with
      | none => (s.table.active[s.tx.active]).backoff
      | some g => max (s.table.active[s.tx.active]).backoff (s.table.active[g.profile]).backoff
    let ceiling : Nat := s.settings.attenMax
    let set (a count : Nat) : Prop := t = { s with power := { s.power with a := a, rateCount := count } }
    let acts (m : Metrics) := mode = .auto ∧ s.power.limit = .released ∧
      (s.power.rateCount ≤ 1 ∨ m.hcw.fade = true ∧ (m.hcw.powerReq = .up ∨ m.hcw.powerReq = .fastUp))
    let moves (wanted : Int) : Prop := ∃ a : Nat,
      set a (if a = s.power.a then s.power.rateCount - 1 else s.settings.powerInterval) ∧
      (wanted < floor → a = floor) ∧ (floor ≤ wanted → wanted ≤ ceiling → (a : Int) = wanted) ∧
      (floor ≤ wanted → ceiling < wanted → a = ceiling)
    (good = none → set s.power.a (s.power.rateCount - 1)) ∧
    (∀ m, good = some m →
      (¬ acts m → set s.power.a (s.power.rateCount - 1)) ∧
      (acts m → moves ((s.power.a : Int) +
        match m.hcw.powerReq with | .up => -1 | .fastUp => -3 | .down => 1 | .none => 0) ∧
        (floor ≤ ceiling → floor ≤ t.power.a ∧ t.power.a ≤ ceiling))) ∧
    (floor ≤ s.power.a → s.power.a ≤ ceiling → floor ≤ t.power.a ∧ t.power.a ≤ ceiling ∧
      t.power.a ≤ s.power.a + 1 ∧ s.power.a ≤ t.power.a + 3)) ∧
  ∀ s : State, s.link.state ≠ .run →
    (∀ v, s.powerReceive v = s) ∧ ∀ good, s.powerTransmit good = s

/-! ## Encodings -/

/-- R80, R150, R159, R184: the fields of a hop control word stand in its 32-bit word at the bits R184 gives; they come
back from it, and a word comes back from its fields unless its ask or answer kind is the fourth code, which is read as
NONE. An RX_METRICS record carries its fields at the offsets R184 gives, each branch brought into the ranges of R159.
A record has a good check exactly when it has the length of its kind and its last two bytes are, little-endian, the
CRC-16 over the bytes before them: the register starts at all ones and takes each byte most significant bit first,
with the polynomial x^16 + x^12 + x^5 + 1, no reflection and no inversion. -/
def Obligations.HcwRoundTrip : Prop :=
  (∀ h : Hcw, Hcw.decode h.encode = h) ∧
  (∀ w : HcwWord, w.extractLsb' 28 2 ≠ 3#2 → w.extractLsb' 19 2 ≠ 3#2 → (Hcw.decode w).encode = w) ∧
  (∀ h : Hcw, let w := h.encode
    w.extractLsb' 30 2 = (match h.phase with | .sync => 0#2 | .caps => 1#2 | .run => 2#2 | .halt => 3#2) ∧
    w.extractLsb' 28 2 = (match h.askKind with | .none => 0#2 | .ask => 1#2 | .urgent => 2#2) ∧
    w.extractLsb' 25 3 = h.askSeq ∧ w.extractLsb' 21 4 = BitVec.ofNat 4 h.askProfile.val ∧
    w.extractLsb' 19 2 = (match h.ansKind with | .none => 0#2 | .agree => 1#2 | .decline => 2#2) ∧
    w.extractLsb' 16 3 = h.ansSeq ∧ w.extractLsb' 12 4 = h.ansValue ∧
    w.extractLsb' 10 2 = (match h.powerReq with | .none => 0#2 | .up => 1#2 | .down => 2#2 | .fastUp => 3#2) ∧
    w.getLsbD 9 = h.fade ∧ w.getLsbD 8 = h.capsHalf ∧ w.extractLsb' 0 8 = h.capsByte) ∧
  (∀ bs : List Byte,
    let m := parseMetrics bs
    let b (i : Nat) : Byte := bs.getD i 0#8
    let signed (i : Nat) : Int := (b (i + 1) ++ b i).toInt
    let branch (i : Nat) (x : Branch) : Prop :=
      (x.snr : Int) = max 0 (min 500 (signed i)) ∧ x.rsl = max (-400) (min (-40) (signed (i + 2))) ∧
      x.stress = (b (i + 4)).toNat ∧ (x.pilotSnr : Int) = max 0 (min 500 (signed (i + 5)))
    m.frame = b 2 ++ b 1 ∧ m.mainValid = (b 3).getLsbD 0 ∧ m.spaceValid = (b 3).getLsbD 1 ∧
    m.headerValid = (b 3).getLsbD 2 ∧ m.pilot = (b 3).getLsbD 3 ∧ m.uncorrectable = (b 3).getLsbD 4 ∧
    m.rxProfile.val = (b 4).toNat % 16 ∧ branch 5 m.main ∧ branch 12 m.space ∧
    m.hcw = Hcw.decode (b 22 ++ b 21 ++ b 20 ++ b 19)) ∧
  (∀ (bs : List Byte) (i : Nat), wordAt bs i = bs.getD (i + 1) 0#8 ++ bs.getD i 0#8) ∧
  (∀ (bs : List Byte) (n : Nat), 2 ≤ n → (goodRecord n bs = true ↔
    bs.length = n ∧ bs.drop (n - 2) = le16 (crc16 (bs.take (n - 2))))) ∧
  (∀ w : BitVec 16, le16 w = [w.extractLsb' 0 8, w.extractLsb' 8 8]) ∧
  crc16 [] = 0xFFFF#16 ∧
  ∀ (bs : List Byte) (b : Byte), crc16 (bs ++ [b]) = Nat.repeat
    (fun c : BitVec 16 => if c.getLsbD 15 then (c <<< 1) ^^^ 0x1021#16 else c <<< 1) 8
    (crc16 bs ^^^ (b ++ 0#8))

/-! ## Laws that every step keeps -/

/-- R178: ATTN is asserted exactly when some event flag is both raised and enabled, and while the RESET line is
asserted every flag is clear and ATTN is deasserted: with the bounds on the two queues, in every state that a step
reaches from one where it holds. -/
def Obligations.HostLawIsKept : Prop :=
  ∀ s t : State, s.HostLaw → step s = .next t → t.HostLaw

/-- R5, R10, R11, R13, R55, R124, R134, R176: every step keeps the active table valid against atten_max, the own mask
and N true to it, and every setting in its range. -/
def Obligations.TableLawIsKept : Prop :=
  ∀ s t : State, s.TableLaw → step s = .next t → t.TableLaw

/-- R23, R25, R27, R30, R32, R33, R153, R154: every step keeps the Estimator's values and its ring in range, and the
frame numbers of the ring continuous, but for resumed entries. -/
def Obligations.EstimatorLawsAreKept : Prop :=
  ∀ s t : State, step s = .next t → (s.est.Lawful → t.est.Lawful) ∧ (s.FrameLaw → t.FrameLaw)

/-- R42, R53: every step keeps the fade log in strictly rising id, with at most 32 records. -/
def Obligations.FadeLawIsKept : Prop :=
  ∀ s t : State, s.fade.Lawful → step s = .next t → t.fade.Lawful

/-- R87, R97, R106, R110, R118: every step keeps the request lane's pending ask and timers true to its state, the
staged switch apart from the active profile with its countdown in 1..15, and the counts of the transmit record in
range. -/
def Obligations.SignallingLawsAreKept : Prop :=
  ∀ s t : State, step s = .next t → (s.hop.lane.Lawful → t.hop.lane.Lawful) ∧
    (s.settings.Lawful → s.tx.Lawful → t.tx.Lawful)

/-- R51, R85, R97, R116, R122, R137, R138, R142, R158, R164: every step keeps what holds outside RUN, and the timers
true to the link state. -/
def Obligations.LinkLawIsKept : Prop :=
  ∀ s t : State, s.LinkLaw → step s = .next t → t.LinkLaw

/-- R166, R167, R168: every step keeps the bins' counts, the pending window and the ring of closed bins consistent,
and the bin numbers rising by one, modulo 2^32, from each bin of the ring to the next and on to the open bins. While
the RESET line is asserted no earlier bin is open (R171): every step keeps that too, and the rise of the numbers is
kept where it holds. -/
def Obligations.MonitorLawIsKept : Prop :=
  ∀ s t : State, s.settings.Lawful → s.monitor.Lawful → step s = .next t →
    t.monitor.Lawful ∧ (s.HeldMonitor → t.HeldMonitor ∧ (s.monitor.Numbered → t.monitor.Numbered))

/-- R136: the only transitions of the link state. -/
def Obligations.LinkTransitions : Prop :=
  ∀ s t : State, step s = .next t → t.link.state = s.link.state ∨ t.link.state = .config ∨
    (s.link.state = .config ∧ t.link.state = .sync) ∨ (s.link.state = .sync ∧ t.link.state = .caps) ∨
    (s.link.state = .caps ∧ (t.link.state = .sync ∨ t.link.state = .run)) ∨
    (s.link.state = .run ∧ t.link.state = .sync)
end

