-- ==== Sys2Proof/Laws/State.lean ====
section
/-! SUPPORT. One lemma for each field and each small update of the state, and for each field of the host link: what
the update leaves alone, and what it writes. -/

namespace Sys2Proof.Machine

variable (f : EventFlag) (c : Bool) (t : WatchTrigger) (m : Message) (h : HostLink) (s : State)

@[simp] theorem State.raise_pending : (s.raise f).pending = s.pending := rfl
@[simp] theorem State.raise_resetLine : (s.raise f).resetLine = s.resetLine := rfl
@[simp] theorem State.raise_table : (s.raise f).table = s.table := rfl
@[simp] theorem State.raise_est : (s.raise f).est = s.est := rfl
@[simp] theorem State.raise_fade : (s.raise f).fade = s.fade := rfl
@[simp] theorem State.raise_decision : (s.raise f).decision = s.decision := rfl
@[simp] theorem State.raise_hop : (s.raise f).hop = s.hop := rfl
@[simp] theorem State.raise_tx : (s.raise f).tx = s.tx := rfl
@[simp] theorem State.raise_power : (s.raise f).power = s.power := rfl
@[simp] theorem State.raise_link : (s.raise f).link = s.link := rfl
@[simp] theorem State.raise_intake : (s.raise f).intake = s.intake := rfl
@[simp] theorem State.raise_monitor : (s.raise f).monitor = s.monitor := rfl
@[simp] theorem State.raise_host : (s.raise f).host = s.host.raise f := rfl
@[simp] theorem State.raise_settings : (s.raise f).settings = s.settings := rfl
@[simp] theorem State.raise_freeCount : (s.raise f).freeCount = s.freeCount := rfl

@[simp] theorem State.raiseIf_pending : (s.raiseIf c f).pending = s.pending := rfl
@[simp] theorem State.raiseIf_resetLine : (s.raiseIf c f).resetLine = s.resetLine := rfl
@[simp] theorem State.raiseIf_table : (s.raiseIf c f).table = s.table := rfl
@[simp] theorem State.raiseIf_est : (s.raiseIf c f).est = s.est := rfl
@[simp] theorem State.raiseIf_fade : (s.raiseIf c f).fade = s.fade := rfl
@[simp] theorem State.raiseIf_decision : (s.raiseIf c f).decision = s.decision := rfl
@[simp] theorem State.raiseIf_hop : (s.raiseIf c f).hop = s.hop := rfl
@[simp] theorem State.raiseIf_tx : (s.raiseIf c f).tx = s.tx := rfl
@[simp] theorem State.raiseIf_power : (s.raiseIf c f).power = s.power := rfl
@[simp] theorem State.raiseIf_link : (s.raiseIf c f).link = s.link := rfl
@[simp] theorem State.raiseIf_intake : (s.raiseIf c f).intake = s.intake := rfl
@[simp] theorem State.raiseIf_monitor : (s.raiseIf c f).monitor = s.monitor := rfl
@[simp] theorem State.raiseIf_host : (s.raiseIf c f).host = if c then s.host.raise f else s.host := rfl
@[simp] theorem State.raiseIf_settings : (s.raiseIf c f).settings = s.settings := rfl
@[simp] theorem State.raiseIf_freeCount : (s.raiseIf c f).freeCount = s.freeCount := rfl

@[simp] theorem State.markDegraded_pending : (s.markDegraded).pending = s.pending := rfl
@[simp] theorem State.markDegraded_resetLine : (s.markDegraded).resetLine = s.resetLine := rfl
@[simp] theorem State.markDegraded_table : (s.markDegraded).table = s.table := rfl
@[simp] theorem State.markDegraded_est : (s.markDegraded).est = s.est := rfl
@[simp] theorem State.markDegraded_fade : (s.markDegraded).fade = s.fade := rfl
@[simp] theorem State.markDegraded_decision : (s.markDegraded).decision = s.decision := rfl
@[simp] theorem State.markDegraded_hop : (s.markDegraded).hop = s.hop := rfl
@[simp] theorem State.markDegraded_tx : (s.markDegraded).tx = s.tx := rfl
@[simp] theorem State.markDegraded_power : (s.markDegraded).power = s.power := rfl
@[simp] theorem State.markDegraded_link : (s.markDegraded).link = s.link := rfl
@[simp] theorem State.markDegraded_intake : (s.markDegraded).intake = s.intake := rfl
@[simp] theorem State.markDegraded_monitor : (s.markDegraded).monitor = { s.monitor with degraded := s.monitor.degraded || s.isDegraded } := rfl
@[simp] theorem State.markDegraded_host : (s.markDegraded).host = s.host := rfl
@[simp] theorem State.markDegraded_settings : (s.markDegraded).settings = s.settings := rfl
@[simp] theorem State.markDegraded_freeCount : (s.markDegraded).freeCount = s.freeCount := rfl

@[simp] theorem State.watchSwitch_pending : (s.watchSwitch t).pending = s.pending := rfl
@[simp] theorem State.watchSwitch_resetLine : (s.watchSwitch t).resetLine = s.resetLine := rfl
@[simp] theorem State.watchSwitch_table : (s.watchSwitch t).table = s.table := rfl
@[simp] theorem State.watchSwitch_est : (s.watchSwitch t).est = s.est := rfl
@[simp] theorem State.watchSwitch_fade : (s.watchSwitch t).fade = s.fade := rfl
@[simp] theorem State.watchSwitch_decision : (s.watchSwitch t).decision = s.decision := rfl
@[simp] theorem State.watchSwitch_hop : (s.watchSwitch t).hop = s.hop := rfl
@[simp] theorem State.watchSwitch_tx : (s.watchSwitch t).tx = s.tx := rfl
@[simp] theorem State.watchSwitch_power : (s.watchSwitch t).power = s.power := rfl
@[simp] theorem State.watchSwitch_link : (s.watchSwitch t).link = s.link := rfl
@[simp] theorem State.watchSwitch_intake : (s.watchSwitch t).intake = s.intake := rfl
@[simp] theorem State.watchSwitch_monitor : (s.watchSwitch t).monitor = s.monitor := rfl
@[simp] theorem State.watchSwitch_settings : (s.watchSwitch t).settings = s.settings := rfl
@[simp] theorem State.watchSwitch_freeCount : (s.watchSwitch t).freeCount = s.freeCount := rfl

@[simp] theorem State.watchEntry_pending : (s.watchEntry).pending = s.pending := rfl
@[simp] theorem State.watchEntry_resetLine : (s.watchEntry).resetLine = s.resetLine := rfl
@[simp] theorem State.watchEntry_table : (s.watchEntry).table = s.table := rfl
@[simp] theorem State.watchEntry_est : (s.watchEntry).est = s.est := rfl
@[simp] theorem State.watchEntry_fade : (s.watchEntry).fade = s.fade := rfl
@[simp] theorem State.watchEntry_decision : (s.watchEntry).decision = s.decision := rfl
@[simp] theorem State.watchEntry_hop : (s.watchEntry).hop = s.hop := rfl
@[simp] theorem State.watchEntry_tx : (s.watchEntry).tx = s.tx := rfl
@[simp] theorem State.watchEntry_power : (s.watchEntry).power = s.power := rfl
@[simp] theorem State.watchEntry_link : (s.watchEntry).link = s.link := rfl
@[simp] theorem State.watchEntry_intake : (s.watchEntry).intake = s.intake := rfl
@[simp] theorem State.watchEntry_monitor : (s.watchEntry).monitor = s.monitor := rfl
@[simp] theorem State.watchEntry_host : (s.watchEntry).host = { s.host with watch := s.host.watch.entry } := rfl
@[simp] theorem State.watchEntry_settings : (s.watchEntry).settings = s.settings := rfl
@[simp] theorem State.watchEntry_freeCount : (s.watchEntry).freeCount = s.freeCount := rfl

@[simp] theorem State.clearFresh_pending : (s.clearFresh).pending = s.pending := rfl
@[simp] theorem State.clearFresh_resetLine : (s.clearFresh).resetLine = s.resetLine := rfl
@[simp] theorem State.clearFresh_table : (s.clearFresh).table = s.table := rfl
@[simp] theorem State.clearFresh_est : (s.clearFresh).est = s.est := rfl
@[simp] theorem State.clearFresh_fade : (s.clearFresh).fade = s.fade := rfl
@[simp] theorem State.clearFresh_decision : (s.clearFresh).decision = s.decision := rfl
@[simp] theorem State.clearFresh_hop : (s.clearFresh).hop = { s.hop with lane := { s.hop.lane with fresh := false } } := rfl
@[simp] theorem State.clearFresh_tx : (s.clearFresh).tx = s.tx := rfl
@[simp] theorem State.clearFresh_power : (s.clearFresh).power = s.power := rfl
@[simp] theorem State.clearFresh_link : (s.clearFresh).link = s.link := rfl
@[simp] theorem State.clearFresh_intake : (s.clearFresh).intake = s.intake := rfl
@[simp] theorem State.clearFresh_monitor : (s.clearFresh).monitor = s.monitor := rfl
@[simp] theorem State.clearFresh_host : (s.clearFresh).host = s.host := rfl
@[simp] theorem State.clearFresh_settings : (s.clearFresh).settings = s.settings := rfl
@[simp] theorem State.clearFresh_freeCount : (s.clearFresh).freeCount = s.freeCount := rfl

@[simp] theorem State.countFree_pending : (s.countFree).pending = s.pending := rfl
@[simp] theorem State.countFree_resetLine : (s.countFree).resetLine = s.resetLine := rfl
@[simp] theorem State.countFree_table : (s.countFree).table = s.table := rfl
@[simp] theorem State.countFree_est : (s.countFree).est = s.est := rfl
@[simp] theorem State.countFree_fade : (s.countFree).fade = s.fade := rfl
@[simp] theorem State.countFree_decision : (s.countFree).decision = s.decision := rfl
@[simp] theorem State.countFree_hop : (s.countFree).hop = s.hop := rfl
@[simp] theorem State.countFree_tx : (s.countFree).tx = s.tx := rfl
@[simp] theorem State.countFree_power : (s.countFree).power = s.power := rfl
@[simp] theorem State.countFree_link : (s.countFree).link = s.link := rfl
@[simp] theorem State.countFree_intake : (s.countFree).intake = s.intake := rfl
@[simp] theorem State.countFree_monitor : (s.countFree).monitor = s.monitor := rfl
@[simp] theorem State.countFree_host : (s.countFree).host = s.host := rfl
@[simp] theorem State.countFree_settings : (s.countFree).settings = s.settings := rfl
@[simp] theorem State.countFree_freeCount : (s.countFree).freeCount = s.freeCount + 1 := rfl

@[simp] theorem State.loadSilence_pending : (s.loadSilence).pending = s.pending := rfl
@[simp] theorem State.loadSilence_resetLine : (s.loadSilence).resetLine = s.resetLine := rfl
@[simp] theorem State.loadSilence_table : (s.loadSilence).table = s.table := rfl
@[simp] theorem State.loadSilence_est : (s.loadSilence).est = s.est := rfl
@[simp] theorem State.loadSilence_fade : (s.loadSilence).fade = s.fade := rfl
@[simp] theorem State.loadSilence_decision : (s.loadSilence).decision = s.decision := rfl
@[simp] theorem State.loadSilence_hop : (s.loadSilence).hop = s.hop := rfl
@[simp] theorem State.loadSilence_tx : (s.loadSilence).tx = s.tx := rfl
@[simp] theorem State.loadSilence_power : (s.loadSilence).power = s.power := rfl
@[simp] theorem State.loadSilence_link : (s.loadSilence).link = s.link := rfl
@[simp] theorem State.loadSilence_intake : (s.loadSilence).intake = { s.intake with silence := some s.settings.recordTimeout } := rfl
@[simp] theorem State.loadSilence_monitor : (s.loadSilence).monitor = s.monitor := rfl
@[simp] theorem State.loadSilence_host : (s.loadSilence).host = s.host := rfl
@[simp] theorem State.loadSilence_settings : (s.loadSilence).settings = s.settings := rfl
@[simp] theorem State.loadSilence_freeCount : (s.loadSilence).freeCount = s.freeCount := rfl

@[simp] theorem State.loadAcqTimer_pending : (s.loadAcqTimer).pending = s.pending := rfl
@[simp] theorem State.loadAcqTimer_resetLine : (s.loadAcqTimer).resetLine = s.resetLine := rfl
@[simp] theorem State.loadAcqTimer_table : (s.loadAcqTimer).table = s.table := rfl
@[simp] theorem State.loadAcqTimer_est : (s.loadAcqTimer).est = s.est := rfl
@[simp] theorem State.loadAcqTimer_fade : (s.loadAcqTimer).fade = s.fade := rfl
@[simp] theorem State.loadAcqTimer_decision : (s.loadAcqTimer).decision = s.decision := rfl
@[simp] theorem State.loadAcqTimer_hop : (s.loadAcqTimer).hop = s.hop := rfl
@[simp] theorem State.loadAcqTimer_tx : (s.loadAcqTimer).tx = s.tx := rfl
@[simp] theorem State.loadAcqTimer_power : (s.loadAcqTimer).power = s.power := rfl
@[simp] theorem State.loadAcqTimer_link : (s.loadAcqTimer).link = { s.link with acqTimer := some s.settings.acqTimeout } := rfl
@[simp] theorem State.loadAcqTimer_intake : (s.loadAcqTimer).intake = s.intake := rfl
@[simp] theorem State.loadAcqTimer_monitor : (s.loadAcqTimer).monitor = s.monitor := rfl
@[simp] theorem State.loadAcqTimer_host : (s.loadAcqTimer).host = s.host := rfl
@[simp] theorem State.loadAcqTimer_settings : (s.loadAcqTimer).settings = s.settings := rfl
@[simp] theorem State.loadAcqTimer_freeCount : (s.loadAcqTimer).freeCount = s.freeCount := rfl

@[simp] theorem State.dropRequest_pending : (s.dropRequest).pending = s.pending := rfl
@[simp] theorem State.dropRequest_resetLine : (s.dropRequest).resetLine = s.resetLine := rfl
@[simp] theorem State.dropRequest_table : (s.dropRequest).table = s.table := rfl
@[simp] theorem State.dropRequest_est : (s.dropRequest).est = s.est := rfl
@[simp] theorem State.dropRequest_fade : (s.dropRequest).fade = s.fade := rfl
@[simp] theorem State.dropRequest_decision : (s.dropRequest).decision = s.decision := rfl
@[simp] theorem State.dropRequest_hop : (s.dropRequest).hop = s.hop := rfl
@[simp] theorem State.dropRequest_tx : (s.dropRequest).tx = s.tx := rfl
@[simp] theorem State.dropRequest_power : (s.dropRequest).power = s.power := rfl
@[simp] theorem State.dropRequest_link : (s.dropRequest).link = s.link := rfl
@[simp] theorem State.dropRequest_intake : (s.dropRequest).intake = s.intake := rfl
@[simp] theorem State.dropRequest_monitor : (s.dropRequest).monitor = s.monitor := rfl
@[simp] theorem State.dropRequest_host : (s.dropRequest).host = { s.host with inBuf := s.host.inBuf.drop 1 } := rfl
@[simp] theorem State.dropRequest_settings : (s.dropRequest).settings = s.settings := rfl
@[simp] theorem State.dropRequest_freeCount : (s.dropRequest).freeCount = s.freeCount := rfl

@[simp] theorem State.queueReply_pending : (s.queueReply m).pending = s.pending := rfl
@[simp] theorem State.queueReply_resetLine : (s.queueReply m).resetLine = s.resetLine := rfl
@[simp] theorem State.queueReply_table : (s.queueReply m).table = s.table := rfl
@[simp] theorem State.queueReply_est : (s.queueReply m).est = s.est := rfl
@[simp] theorem State.queueReply_fade : (s.queueReply m).fade = s.fade := rfl
@[simp] theorem State.queueReply_decision : (s.queueReply m).decision = s.decision := rfl
@[simp] theorem State.queueReply_hop : (s.queueReply m).hop = s.hop := rfl
@[simp] theorem State.queueReply_tx : (s.queueReply m).tx = s.tx := rfl
@[simp] theorem State.queueReply_power : (s.queueReply m).power = s.power := rfl
@[simp] theorem State.queueReply_link : (s.queueReply m).link = s.link := rfl
@[simp] theorem State.queueReply_intake : (s.queueReply m).intake = s.intake := rfl
@[simp] theorem State.queueReply_monitor : (s.queueReply m).monitor = s.monitor := rfl
@[simp] theorem State.queueReply_host : (s.queueReply m).host = s.host.reply m := rfl
@[simp] theorem State.queueReply_settings : (s.queueReply m).settings = s.settings := rfl
@[simp] theorem State.queueReply_freeCount : (s.queueReply m).freeCount = s.freeCount := rfl

@[simp] theorem State.discardCollected_pending : (s.discardCollected).pending = s.pending := rfl
@[simp] theorem State.discardCollected_resetLine : (s.discardCollected).resetLine = s.resetLine := rfl
@[simp] theorem State.discardCollected_table : (s.discardCollected).table = s.table := rfl
@[simp] theorem State.discardCollected_est : (s.discardCollected).est = s.est := rfl
@[simp] theorem State.discardCollected_fade : (s.discardCollected).fade = s.fade := rfl
@[simp] theorem State.discardCollected_decision : (s.discardCollected).decision = s.decision := rfl
@[simp] theorem State.discardCollected_hop : (s.discardCollected).hop = s.hop := rfl
@[simp] theorem State.discardCollected_tx : (s.discardCollected).tx = s.tx := rfl
@[simp] theorem State.discardCollected_power : (s.discardCollected).power = s.power := rfl
@[simp] theorem State.discardCollected_link : (s.discardCollected).link = s.link := rfl
@[simp] theorem State.discardCollected_intake : (s.discardCollected).intake = s.intake := rfl
@[simp] theorem State.discardCollected_monitor : (s.discardCollected).monitor = s.monitor := rfl
@[simp] theorem State.discardCollected_host : (s.discardCollected).host = { s.host with collecting := none, quiet := 0 } := rfl
@[simp] theorem State.discardCollected_settings : (s.discardCollected).settings = s.settings := rfl
@[simp] theorem State.discardCollected_freeCount : (s.discardCollected).freeCount = s.freeCount := rfl

@[simp] theorem State.passClose_pending : (s.passClose).pending = s.pending := rfl
@[simp] theorem State.passClose_resetLine : (s.passClose).resetLine = s.resetLine := rfl
@[simp] theorem State.passClose_table : (s.passClose).table = s.table := rfl
@[simp] theorem State.passClose_est : (s.passClose).est = s.est := rfl
@[simp] theorem State.passClose_fade : (s.passClose).fade = { s.fade with justClosed := false } := rfl
@[simp] theorem State.passClose_decision : (s.passClose).decision = s.decision := rfl
@[simp] theorem State.passClose_hop : (s.passClose).hop = s.hop := rfl
@[simp] theorem State.passClose_tx : (s.passClose).tx = s.tx := rfl
@[simp] theorem State.passClose_power : (s.passClose).power = s.power := rfl
@[simp] theorem State.passClose_link : (s.passClose).link = s.link := rfl
@[simp] theorem State.passClose_intake : (s.passClose).intake = s.intake := rfl
@[simp] theorem State.passClose_monitor : (s.passClose).monitor = s.monitor := rfl
@[simp] theorem State.passClose_host : (s.passClose).host = s.host := rfl
@[simp] theorem State.passClose_settings : (s.passClose).settings = s.settings := rfl
@[simp] theorem State.passClose_freeCount : (s.passClose).freeCount = s.freeCount := rfl

@[simp] theorem State.setIdleAtten_pending : (s.setIdleAtten).pending = s.pending := rfl
@[simp] theorem State.setIdleAtten_resetLine : (s.setIdleAtten).resetLine = s.resetLine := rfl
@[simp] theorem State.setIdleAtten_table : (s.setIdleAtten).table = s.table := rfl
@[simp] theorem State.setIdleAtten_est : (s.setIdleAtten).est = s.est := rfl
@[simp] theorem State.setIdleAtten_fade : (s.setIdleAtten).fade = s.fade := rfl
@[simp] theorem State.setIdleAtten_decision : (s.setIdleAtten).decision = s.decision := rfl
@[simp] theorem State.setIdleAtten_hop : (s.setIdleAtten).hop = s.hop := rfl
@[simp] theorem State.setIdleAtten_tx : (s.setIdleAtten).tx = s.tx := rfl
@[simp] theorem State.setIdleAtten_power : (s.setIdleAtten).power = { s.power with a := s.idleAtten } := rfl
@[simp] theorem State.setIdleAtten_link : (s.setIdleAtten).link = s.link := rfl
@[simp] theorem State.setIdleAtten_intake : (s.setIdleAtten).intake = s.intake := rfl
@[simp] theorem State.setIdleAtten_monitor : (s.setIdleAtten).monitor = s.monitor := rfl
@[simp] theorem State.setIdleAtten_host : (s.setIdleAtten).host = s.host := rfl
@[simp] theorem State.setIdleAtten_settings : (s.setIdleAtten).settings = s.settings := rfl
@[simp] theorem State.setIdleAtten_freeCount : (s.setIdleAtten).freeCount = s.freeCount := rfl

@[simp] theorem HostLink.notice_collecting : (h.notice m).collecting = h.collecting := by
  unfold HostLink.notice; split <;> rfl
@[simp] theorem HostLink.notice_quiet : (h.notice m).quiet = h.quiet := by
  unfold HostLink.notice; split <;> rfl
@[simp] theorem HostLink.notice_inBuf : (h.notice m).inBuf = h.inBuf := by
  unfold HostLink.notice; split <;> rfl
@[simp] theorem HostLink.notice_raised : (h.notice m).raised = h.raised := by
  unfold HostLink.notice; split <;> rfl
@[simp] theorem HostLink.notice_enabled : (h.notice m).enabled = h.enabled := by
  unfold HostLink.notice; split <;> rfl
@[simp] theorem HostLink.notice_attn : (h.notice m).attn = h.attn := by
  unfold HostLink.notice; split <;> rfl
@[simp] theorem HostLink.notice_watch : (h.notice m).watch = h.watch := by
  unfold HostLink.notice; split <;> rfl
@[simp] theorem HostLink.notice_restarting : (h.notice m).restarting = h.restarting := by
  unfold HostLink.notice; split <;> rfl
@[simp] theorem HostLink.notice_rateCode : (h.notice m).rateCode = h.rateCode := by
  unfold HostLink.notice; split <;> rfl

@[simp] theorem HostLink.raise_collecting : (h.raise f).collecting = h.collecting := by
  unfold HostLink.raise; split <;> [rfl; (dsimp only; split <;> simp [HostLink.setFlags])]
@[simp] theorem HostLink.raise_quiet : (h.raise f).quiet = h.quiet := by
  unfold HostLink.raise; split <;> [rfl; (dsimp only; split <;> simp [HostLink.setFlags])]
@[simp] theorem HostLink.raise_inBuf : (h.raise f).inBuf = h.inBuf := by
  unfold HostLink.raise; split <;> [rfl; (dsimp only; split <;> simp [HostLink.setFlags])]
@[simp] theorem HostLink.raise_enabled : (h.raise f).enabled = h.enabled := by
  unfold HostLink.raise; split <;> [rfl; (dsimp only; split <;> simp [HostLink.setFlags])]
@[simp] theorem HostLink.raise_watch : (h.raise f).watch = h.watch := by
  unfold HostLink.raise; split <;> [rfl; (dsimp only; split <;> simp [HostLink.setFlags])]
@[simp] theorem HostLink.raise_restarting : (h.raise f).restarting = h.restarting := by
  unfold HostLink.raise; split <;> [rfl; (dsimp only; split <;> simp [HostLink.setFlags])]
@[simp] theorem HostLink.raise_rateCode : (h.raise f).rateCode = h.rateCode := by
  unfold HostLink.raise; split <;> [rfl; (dsimp only; split <;> simp [HostLink.setFlags])]

end Sys2Proof.Machine
end

