-- ==== Sys2Proof/Laws/Frame.lean ====
section
/-! SUPPORT. The frame of every operation that acts on the whole state: the parts of the state it leaves alone, one
lemma an operation. Later proofs cite these and do not unfold the operation. -/

namespace Sys2Proof.Machine

variable (s : State)

@[simp] theorem State.testLongFade_frame :
    (s.testLongFade).pending = s.pending ∧ (s.testLongFade).resetLine = s.resetLine ∧
    (s.testLongFade).table = s.table ∧ (s.testLongFade).est = s.est ∧ (s.testLongFade).decision = s.decision ∧
    (s.testLongFade).hop = s.hop ∧ (s.testLongFade).tx = s.tx ∧ (s.testLongFade).power = s.power ∧
    (s.testLongFade).link = s.link ∧ (s.testLongFade).intake = s.intake ∧
    (s.testLongFade).monitor = s.monitor ∧ (s.testLongFade).settings = s.settings ∧
    (s.testLongFade).freeCount = s.freeCount := by
  simp [State.testLongFade]

@[simp] theorem State.openFade_frame :
    (s.openFade).pending = s.pending ∧ (s.openFade).resetLine = s.resetLine ∧ (s.openFade).table = s.table ∧
    (s.openFade).est = s.est ∧ (s.openFade).decision = s.decision ∧ (s.openFade).hop = s.hop ∧
    (s.openFade).tx = s.tx ∧ (s.openFade).power = s.power ∧ (s.openFade).link = s.link ∧
    (s.openFade).intake = s.intake ∧ (s.openFade).settings = s.settings ∧
    (s.openFade).freeCount = s.freeCount := by
  simp [State.openFade]

@[simp] theorem State.fadeClearEntry_frame (x : FadeInput) :
    (s.fadeClearEntry x).pending = s.pending ∧ (s.fadeClearEntry x).resetLine = s.resetLine ∧
    (s.fadeClearEntry x).table = s.table ∧ (s.fadeClearEntry x).est = s.est ∧
    (s.fadeClearEntry x).decision = s.decision ∧ (s.fadeClearEntry x).hop = s.hop ∧
    (s.fadeClearEntry x).tx = s.tx ∧ (s.fadeClearEntry x).power = s.power ∧
    (s.fadeClearEntry x).link = s.link ∧ (s.fadeClearEntry x).intake = s.intake ∧
    (s.fadeClearEntry x).settings = s.settings ∧ (s.fadeClearEntry x).freeCount = s.freeCount := by
  unfold State.fadeClearEntry; dsimp only; (repeat' split) <;> simp

@[simp] theorem State.recoverFade_frame (o : OpenFade) :
    (s.recoverFade o).pending = s.pending ∧ (s.recoverFade o).resetLine = s.resetLine ∧
    (s.recoverFade o).table = s.table ∧ (s.recoverFade o).est = s.est ∧
    (s.recoverFade o).decision = s.decision ∧ (s.recoverFade o).hop = s.hop ∧ (s.recoverFade o).tx = s.tx ∧
    (s.recoverFade o).power = s.power ∧ (s.recoverFade o).link = s.link ∧
    (s.recoverFade o).intake = s.intake ∧ (s.recoverFade o).monitor = s.monitor ∧
    (s.recoverFade o).settings = s.settings ∧ (s.recoverFade o).freeCount = s.freeCount := by
  simp [State.recoverFade]

@[simp] theorem State.fadeOpenEntry_frame (o : OpenFade) (x : FadeInput) :
    (s.fadeOpenEntry o x).pending = s.pending ∧ (s.fadeOpenEntry o x).resetLine = s.resetLine ∧
    (s.fadeOpenEntry o x).table = s.table ∧ (s.fadeOpenEntry o x).est = s.est ∧
    (s.fadeOpenEntry o x).decision = s.decision ∧ (s.fadeOpenEntry o x).hop = s.hop ∧
    (s.fadeOpenEntry o x).tx = s.tx ∧ (s.fadeOpenEntry o x).power = s.power ∧
    (s.fadeOpenEntry o x).link = s.link ∧ (s.fadeOpenEntry o x).intake = s.intake ∧
    (s.fadeOpenEntry o x).monitor = s.monitor ∧ (s.fadeOpenEntry o x).settings = s.settings ∧
    (s.fadeOpenEntry o x).freeCount = s.freeCount := by
  unfold State.fadeOpenEntry; dsimp only; (repeat' split) <;> simp

@[simp] theorem State.trackFade_frame (v : EntryValues) :
    (s.trackFade v).pending = s.pending ∧ (s.trackFade v).resetLine = s.resetLine ∧
    (s.trackFade v).table = s.table ∧ (s.trackFade v).est = s.est ∧ (s.trackFade v).decision = s.decision ∧
    (s.trackFade v).hop = s.hop ∧ (s.trackFade v).tx = s.tx ∧ (s.trackFade v).power = s.power ∧
    (s.trackFade v).link = s.link ∧ (s.trackFade v).intake = s.intake ∧
    (s.trackFade v).settings = s.settings ∧ (s.trackFade v).freeCount = s.freeCount := by
  unfold State.trackFade; (repeat' split) <;> simp

@[simp] theorem State.fadeLinkEvent_frame (why : EndedBy) :
    (s.fadeLinkEvent why).pending = s.pending ∧ (s.fadeLinkEvent why).resetLine = s.resetLine ∧
    (s.fadeLinkEvent why).table = s.table ∧ (s.fadeLinkEvent why).est = s.est ∧
    (s.fadeLinkEvent why).decision = s.decision ∧ (s.fadeLinkEvent why).hop = s.hop ∧
    (s.fadeLinkEvent why).tx = s.tx ∧ (s.fadeLinkEvent why).power = s.power ∧
    (s.fadeLinkEvent why).link = s.link ∧ (s.fadeLinkEvent why).intake = s.intake ∧
    (s.fadeLinkEvent why).monitor = s.monitor ∧ (s.fadeLinkEvent why).settings = s.settings ∧
    (s.fadeLinkEvent why).freeCount = s.freeCount := by
  simp [State.fadeLinkEvent]

@[simp] theorem State.estimate_frame (e : Entry) :
    ((s.estimate e).1).pending = s.pending ∧ ((s.estimate e).1).resetLine = s.resetLine ∧
    ((s.estimate e).1).table = s.table ∧ ((s.estimate e).1).fade = s.fade ∧
    ((s.estimate e).1).decision = s.decision ∧ ((s.estimate e).1).hop = s.hop ∧ ((s.estimate e).1).tx = s.tx ∧
    ((s.estimate e).1).power = s.power ∧ ((s.estimate e).1).link = s.link ∧
    ((s.estimate e).1).intake = s.intake ∧ ((s.estimate e).1).monitor = s.monitor ∧
    ((s.estimate e).1).settings = s.settings ∧ ((s.estimate e).1).freeCount = s.freeCount := by
  simp [State.estimate]

@[simp] theorem State.starve_frame :
    (s.starve).pending = s.pending ∧ (s.starve).resetLine = s.resetLine ∧ (s.starve).table = s.table ∧
    (s.starve).fade = s.fade ∧ (s.starve).decision = s.decision ∧ (s.starve).hop = s.hop ∧
    (s.starve).tx = s.tx ∧ (s.starve).power = s.power ∧ (s.starve).link = s.link ∧
    (s.starve).intake = s.intake ∧ (s.starve).monitor = s.monitor ∧ (s.starve).settings = s.settings ∧
    (s.starve).freeCount = s.freeCount := by
  simp [State.starve]

@[simp] theorem State.installSwap_frame :
    (s.installSwap).pending = s.pending ∧ (s.installSwap).resetLine = s.resetLine ∧
    (s.installSwap).est = s.est ∧ (s.installSwap).fade = s.fade ∧ (s.installSwap).decision = s.decision ∧
    (s.installSwap).hop = s.hop ∧ (s.installSwap).tx = s.tx ∧ (s.installSwap).link = s.link ∧
    (s.installSwap).intake = s.intake ∧ (s.installSwap).monitor = s.monitor ∧ (s.installSwap).host = s.host ∧
    (s.installSwap).settings = s.settings ∧ (s.installSwap).freeCount = s.freeCount := by
  simp [State.installSwap]

@[simp] theorem State.takeSwap_frame :
    (s.takeSwap).pending = s.pending ∧ (s.takeSwap).resetLine = s.resetLine ∧ (s.takeSwap).est = s.est ∧
    (s.takeSwap).fade = s.fade ∧ (s.takeSwap).decision = s.decision ∧ (s.takeSwap).hop = s.hop ∧
    (s.takeSwap).tx = s.tx ∧ (s.takeSwap).link = s.link ∧ (s.takeSwap).intake = s.intake ∧
    (s.takeSwap).monitor = s.monitor ∧ (s.takeSwap).settings = s.settings ∧
    (s.takeSwap).freeCount = s.freeCount := by
  simp [State.takeSwap]

@[simp] theorem State.dropSwap_frame :
    (s.dropSwap).pending = s.pending ∧ (s.dropSwap).resetLine = s.resetLine ∧ (s.dropSwap).est = s.est ∧
    (s.dropSwap).fade = s.fade ∧ (s.dropSwap).decision = s.decision ∧ (s.dropSwap).hop = s.hop ∧
    (s.dropSwap).tx = s.tx ∧ (s.dropSwap).power = s.power ∧ (s.dropSwap).link = s.link ∧
    (s.dropSwap).intake = s.intake ∧ (s.dropSwap).monitor = s.monitor ∧ (s.dropSwap).settings = s.settings ∧
    (s.dropSwap).freeCount = s.freeCount := by
  simp [State.dropSwap]

@[simp] theorem State.trySwap_frame :
    (s.trySwap).pending = s.pending ∧ (s.trySwap).resetLine = s.resetLine ∧ (s.trySwap).est = s.est ∧
    (s.trySwap).fade = s.fade ∧ (s.trySwap).decision = s.decision ∧ (s.trySwap).hop = s.hop ∧
    (s.trySwap).tx = s.tx ∧ (s.trySwap).link = s.link ∧ (s.trySwap).intake = s.intake ∧
    (s.trySwap).monitor = s.monitor ∧ (s.trySwap).settings = s.settings ∧
    (s.trySwap).freeCount = s.freeCount := by
  unfold State.trySwap; (repeat' split) <;> simp

@[simp] theorem State.swapAtEntry_frame :
    (s.swapAtEntry).pending = s.pending ∧ (s.swapAtEntry).resetLine = s.resetLine ∧
    (s.swapAtEntry).est = s.est ∧ (s.swapAtEntry).fade = s.fade ∧ (s.swapAtEntry).decision = s.decision ∧
    (s.swapAtEntry).hop = s.hop ∧ (s.swapAtEntry).tx = s.tx ∧ (s.swapAtEntry).link = s.link ∧
    (s.swapAtEntry).intake = s.intake ∧ (s.swapAtEntry).monitor = s.monitor ∧
    (s.swapAtEntry).settings = s.settings ∧ (s.swapAtEntry).freeCount = s.freeCount := by
  unfold State.swapAtEntry; (repeat' split) <;> simp

@[simp] theorem State.handTarget_frame (target : PendingAsk) :
    (s.handTarget target).pending = s.pending ∧ (s.handTarget target).resetLine = s.resetLine ∧
    (s.handTarget target).table = s.table ∧ (s.handTarget target).est = s.est ∧
    (s.handTarget target).decision = s.decision ∧ (s.handTarget target).tx = s.tx ∧
    (s.handTarget target).power = s.power ∧ (s.handTarget target).link = s.link ∧
    (s.handTarget target).intake = s.intake ∧ (s.handTarget target).monitor = s.monitor ∧
    (s.handTarget target).host = s.host ∧ (s.handTarget target).settings = s.settings ∧
    (s.handTarget target).freeCount = s.freeCount := by
  unfold State.handTarget; (repeat' split) <;> simp

@[simp] theorem State.runDecision_frame (v : EntryValues) :
    (s.runDecision v).pending = s.pending ∧ (s.runDecision v).resetLine = s.resetLine ∧
    (s.runDecision v).table = s.table ∧ (s.runDecision v).est = s.est ∧ (s.runDecision v).tx = s.tx ∧
    (s.runDecision v).power = s.power ∧ (s.runDecision v).link = s.link ∧
    (s.runDecision v).intake = s.intake ∧ (s.runDecision v).monitor = s.monitor ∧
    (s.runDecision v).host = s.host ∧ (s.runDecision v).settings = s.settings ∧
    (s.runDecision v).freeCount = s.freeCount := by
  unfold State.runDecision; dsimp only; (repeat' split) <;> simp

@[simp] theorem State.expireAnswerTimer_frame :
    (s.expireAnswerTimer).pending = s.pending ∧ (s.expireAnswerTimer).resetLine = s.resetLine ∧
    (s.expireAnswerTimer).table = s.table ∧ (s.expireAnswerTimer).est = s.est ∧
    (s.expireAnswerTimer).fade = s.fade ∧ (s.expireAnswerTimer).decision = s.decision ∧
    (s.expireAnswerTimer).tx = s.tx ∧ (s.expireAnswerTimer).power = s.power ∧
    (s.expireAnswerTimer).link = s.link ∧ (s.expireAnswerTimer).intake = s.intake ∧
    (s.expireAnswerTimer).monitor = s.monitor ∧ (s.expireAnswerTimer).settings = s.settings ∧
    (s.expireAnswerTimer).freeCount = s.freeCount := by
  unfold State.expireAnswerTimer; dsimp only; split <;> simp

@[simp] theorem State.missSwitch_frame :
    (s.missSwitch).pending = s.pending ∧ (s.missSwitch).resetLine = s.resetLine ∧
    (s.missSwitch).table = s.table ∧ (s.missSwitch).est = s.est ∧ (s.missSwitch).fade = s.fade ∧
    (s.missSwitch).decision = s.decision ∧ (s.missSwitch).tx = s.tx ∧ (s.missSwitch).power = s.power ∧
    (s.missSwitch).link = s.link ∧ (s.missSwitch).intake = s.intake ∧ (s.missSwitch).monitor = s.monitor ∧
    (s.missSwitch).settings = s.settings ∧ (s.missSwitch).freeCount = s.freeCount := by
  simp [State.missSwitch]

@[simp] theorem State.endBackoff_frame :
    (s.endBackoff).pending = s.pending ∧ (s.endBackoff).resetLine = s.resetLine ∧
    (s.endBackoff).table = s.table ∧ (s.endBackoff).est = s.est ∧ (s.endBackoff).fade = s.fade ∧
    (s.endBackoff).decision = s.decision ∧ (s.endBackoff).tx = s.tx ∧ (s.endBackoff).power = s.power ∧
    (s.endBackoff).link = s.link ∧ (s.endBackoff).intake = s.intake ∧ (s.endBackoff).monitor = s.monitor ∧
    (s.endBackoff).settings = s.settings ∧ (s.endBackoff).freeCount = s.freeCount := by
  simp [State.endBackoff]

@[simp] theorem State.advanceLaneTimer_frame :
    (s.advanceLaneTimer).pending = s.pending ∧ (s.advanceLaneTimer).resetLine = s.resetLine ∧
    (s.advanceLaneTimer).table = s.table ∧ (s.advanceLaneTimer).est = s.est ∧
    (s.advanceLaneTimer).fade = s.fade ∧ (s.advanceLaneTimer).decision = s.decision ∧
    (s.advanceLaneTimer).tx = s.tx ∧ (s.advanceLaneTimer).power = s.power ∧
    (s.advanceLaneTimer).link = s.link ∧ (s.advanceLaneTimer).intake = s.intake ∧
    (s.advanceLaneTimer).monitor = s.monitor ∧ (s.advanceLaneTimer).settings = s.settings ∧
    (s.advanceLaneTimer).freeCount = s.freeCount := by
  unfold State.advanceLaneTimer; dsimp only; (repeat' split) <;> simp

@[simp] theorem State.changeR_frame (new : Profile) :
    (s.changeR new).pending = s.pending ∧ (s.changeR new).resetLine = s.resetLine ∧
    (s.changeR new).table = s.table ∧ (s.changeR new).est = s.est ∧ (s.changeR new).tx = s.tx ∧
    (s.changeR new).power = s.power ∧ (s.changeR new).link = s.link ∧ (s.changeR new).intake = s.intake ∧
    (s.changeR new).settings = s.settings ∧ (s.changeR new).freeCount = s.freeCount := by
  simp [State.changeR]

@[simp] theorem State.followHeader_frame (seen : Profile) :
    (s.followHeader seen).pending = s.pending ∧ (s.followHeader seen).resetLine = s.resetLine ∧
    (s.followHeader seen).table = s.table ∧ (s.followHeader seen).est = s.est ∧
    (s.followHeader seen).tx = s.tx ∧ (s.followHeader seen).power = s.power ∧
    (s.followHeader seen).link = s.link ∧ (s.followHeader seen).intake = s.intake ∧
    (s.followHeader seen).settings = s.settings ∧ (s.followHeader seen).freeCount = s.freeCount := by
  unfold State.followHeader; (repeat' split) <;> simp

@[simp] theorem State.takeAsk_frame (q : Seq) (o : AskOutcome) :
    (s.takeAsk q o).pending = s.pending ∧ (s.takeAsk q o).resetLine = s.resetLine ∧
    (s.takeAsk q o).table = s.table ∧ (s.takeAsk q o).est = s.est ∧ (s.takeAsk q o).fade = s.fade ∧
    (s.takeAsk q o).decision = s.decision ∧ (s.takeAsk q o).power = s.power ∧ (s.takeAsk q o).link = s.link ∧
    (s.takeAsk q o).intake = s.intake ∧ (s.takeAsk q o).monitor = s.monitor ∧ (s.takeAsk q o).host = s.host ∧
    (s.takeAsk q o).settings = s.settings ∧ (s.takeAsk q o).freeCount = s.freeCount := by
  simp [State.takeAsk]

@[simp] theorem State.examineAsk_frame :
    (s.examineAsk).pending = s.pending ∧ (s.examineAsk).resetLine = s.resetLine ∧
    (s.examineAsk).table = s.table ∧ (s.examineAsk).est = s.est ∧ (s.examineAsk).fade = s.fade ∧
    (s.examineAsk).decision = s.decision ∧ (s.examineAsk).power = s.power ∧ (s.examineAsk).link = s.link ∧
    (s.examineAsk).intake = s.intake ∧ (s.examineAsk).monitor = s.monitor ∧ (s.examineAsk).host = s.host ∧
    (s.examineAsk).settings = s.settings ∧ (s.examineAsk).freeCount = s.freeCount := by
  unfold State.examineAsk; dsimp only; (repeat' split) <;> simp

@[simp] theorem State.updateFar_frame (good : Option Metrics) :
    (s.updateFar good).pending = s.pending ∧ (s.updateFar good).resetLine = s.resetLine ∧
    (s.updateFar good).table = s.table ∧ (s.updateFar good).est = s.est ∧ (s.updateFar good).fade = s.fade ∧
    (s.updateFar good).decision = s.decision ∧ (s.updateFar good).tx = s.tx ∧
    (s.updateFar good).power = s.power ∧ (s.updateFar good).link = s.link ∧
    (s.updateFar good).intake = s.intake ∧ (s.updateFar good).monitor = s.monitor ∧
    (s.updateFar good).host = s.host ∧ (s.updateFar good).settings = s.settings ∧
    (s.updateFar good).freeCount = s.freeCount := by
  unfold State.updateFar; (repeat' split) <;> simp

@[simp] theorem State.followGood_frame (good : Option Metrics) :
    (s.followGood good).pending = s.pending ∧ (s.followGood good).resetLine = s.resetLine ∧
    (s.followGood good).table = s.table ∧ (s.followGood good).est = s.est ∧ (s.followGood good).tx = s.tx ∧
    (s.followGood good).power = s.power ∧ (s.followGood good).link = s.link ∧
    (s.followGood good).intake = s.intake ∧ (s.followGood good).settings = s.settings ∧
    (s.followGood good).freeCount = s.freeCount := by
  unfold State.followGood; (repeat' split) <;> simp

@[simp] theorem State.examineGood_frame (good : Option Metrics) :
    (s.examineGood good).pending = s.pending ∧ (s.examineGood good).resetLine = s.resetLine ∧
    (s.examineGood good).table = s.table ∧ (s.examineGood good).est = s.est ∧
    (s.examineGood good).fade = s.fade ∧ (s.examineGood good).decision = s.decision ∧
    (s.examineGood good).tx = s.tx ∧ (s.examineGood good).power = s.power ∧
    (s.examineGood good).link = s.link ∧ (s.examineGood good).intake = s.intake ∧
    (s.examineGood good).monitor = s.monitor ∧ (s.examineGood good).host = s.host ∧
    (s.examineGood good).settings = s.settings ∧ (s.examineGood good).freeCount = s.freeCount := by
  unfold State.examineGood; (repeat' split) <;> simp

@[simp] theorem State.advanceInRun_frame :
    (s.advanceInRun).pending = s.pending ∧ (s.advanceInRun).resetLine = s.resetLine ∧
    (s.advanceInRun).table = s.table ∧ (s.advanceInRun).est = s.est ∧ (s.advanceInRun).fade = s.fade ∧
    (s.advanceInRun).decision = s.decision ∧ (s.advanceInRun).tx = s.tx ∧ (s.advanceInRun).power = s.power ∧
    (s.advanceInRun).link = s.link ∧ (s.advanceInRun).intake = s.intake ∧
    (s.advanceInRun).monitor = s.monitor ∧ (s.advanceInRun).settings = s.settings ∧
    (s.advanceInRun).freeCount = s.freeCount := by
  unfold State.advanceInRun; (repeat' split) <;> simp

@[simp] theorem State.answerGood_frame (good : Option Metrics) :
    (s.answerGood good).pending = s.pending ∧ (s.answerGood good).resetLine = s.resetLine ∧
    (s.answerGood good).table = s.table ∧ (s.answerGood good).est = s.est ∧
    (s.answerGood good).fade = s.fade ∧ (s.answerGood good).decision = s.decision ∧
    (s.answerGood good).power = s.power ∧ (s.answerGood good).link = s.link ∧
    (s.answerGood good).intake = s.intake ∧ (s.answerGood good).monitor = s.monitor ∧
    (s.answerGood good).host = s.host ∧ (s.answerGood good).settings = s.settings ∧
    (s.answerGood good).freeCount = s.freeCount := by
  unfold State.answerGood; (repeat' split) <;> simp

@[simp] theorem State.signal_frame (good : Option Metrics) :
    (s.signal good).pending = s.pending ∧ (s.signal good).resetLine = s.resetLine ∧
    (s.signal good).table = s.table ∧ (s.signal good).est = s.est ∧ (s.signal good).power = s.power ∧
    (s.signal good).link = s.link ∧ (s.signal good).intake = s.intake ∧
    (s.signal good).settings = s.settings ∧ (s.signal good).freeCount = s.freeCount := by
  simp [State.signal]

@[simp] theorem State.powerReceive_frame (v : EntryValues) :
    (s.powerReceive v).pending = s.pending ∧ (s.powerReceive v).resetLine = s.resetLine ∧
    (s.powerReceive v).table = s.table ∧ (s.powerReceive v).est = s.est ∧ (s.powerReceive v).fade = s.fade ∧
    (s.powerReceive v).decision = s.decision ∧ (s.powerReceive v).hop = s.hop ∧ (s.powerReceive v).tx = s.tx ∧
    (s.powerReceive v).link = s.link ∧ (s.powerReceive v).intake = s.intake ∧
    (s.powerReceive v).monitor = s.monitor ∧ (s.powerReceive v).host = s.host ∧
    (s.powerReceive v).settings = s.settings ∧ (s.powerReceive v).freeCount = s.freeCount := by
  unfold State.powerReceive; (repeat' split) <;> simp

@[simp] theorem State.powerTransmit_frame (good : Option Metrics) :
    (s.powerTransmit good).pending = s.pending ∧ (s.powerTransmit good).resetLine = s.resetLine ∧
    (s.powerTransmit good).table = s.table ∧ (s.powerTransmit good).est = s.est ∧
    (s.powerTransmit good).fade = s.fade ∧ (s.powerTransmit good).decision = s.decision ∧
    (s.powerTransmit good).hop = s.hop ∧ (s.powerTransmit good).tx = s.tx ∧
    (s.powerTransmit good).link = s.link ∧ (s.powerTransmit good).intake = s.intake ∧
    (s.powerTransmit good).monitor = s.monitor ∧ (s.powerTransmit good).host = s.host ∧
    (s.powerTransmit good).settings = s.settings ∧ (s.powerTransmit good).freeCount = s.freeCount := by
  unfold State.powerTransmit; dsimp only; (repeat' split) <;> simp

@[simp] theorem State.removeStagedUpshift_frame :
    (s.removeStagedUpshift).pending = s.pending ∧ (s.removeStagedUpshift).resetLine = s.resetLine ∧
    (s.removeStagedUpshift).table = s.table ∧ (s.removeStagedUpshift).est = s.est ∧
    (s.removeStagedUpshift).fade = s.fade ∧ (s.removeStagedUpshift).decision = s.decision ∧
    (s.removeStagedUpshift).power = s.power ∧ (s.removeStagedUpshift).link = s.link ∧
    (s.removeStagedUpshift).intake = s.intake ∧ (s.removeStagedUpshift).monitor = s.monitor ∧
    (s.removeStagedUpshift).host = s.host ∧ (s.removeStagedUpshift).settings = s.settings ∧
    (s.removeStagedUpshift).freeCount = s.freeCount := by
  unfold State.removeStagedUpshift; (repeat' split) <;> simp

@[simp] theorem State.limitWork_frame (txlim : Bool) :
    (s.limitWork txlim).pending = s.pending ∧ (s.limitWork txlim).resetLine = s.resetLine ∧
    (s.limitWork txlim).table = s.table ∧ (s.limitWork txlim).est = s.est ∧
    (s.limitWork txlim).fade = s.fade ∧ (s.limitWork txlim).decision = s.decision ∧
    (s.limitWork txlim).link = s.link ∧ (s.limitWork txlim).intake = s.intake ∧
    (s.limitWork txlim).monitor = s.monitor ∧ (s.limitWork txlim).settings = s.settings ∧
    (s.limitWork txlim).freeCount = s.freeCount := by
  unfold State.limitWork; dsimp only; (repeat' split) <;> simp

@[simp] theorem State.addPilot_frame :
    (s.addPilot).pending = s.pending ∧ (s.addPilot).resetLine = s.resetLine ∧ (s.addPilot).table = s.table ∧
    (s.addPilot).est = s.est ∧ (s.addPilot).fade = s.fade ∧ (s.addPilot).decision = s.decision ∧
    (s.addPilot).hop = s.hop ∧ (s.addPilot).power = s.power ∧ (s.addPilot).link = s.link ∧
    (s.addPilot).intake = s.intake ∧ (s.addPilot).monitor = s.monitor ∧ (s.addPilot).settings = s.settings ∧
    (s.addPilot).freeCount = s.freeCount := by
  simp [State.addPilot]

@[simp] theorem State.reloadPilotTimer_frame :
    (s.reloadPilotTimer).pending = s.pending ∧ (s.reloadPilotTimer).resetLine = s.resetLine ∧
    (s.reloadPilotTimer).table = s.table ∧ (s.reloadPilotTimer).est = s.est ∧
    (s.reloadPilotTimer).fade = s.fade ∧ (s.reloadPilotTimer).decision = s.decision ∧
    (s.reloadPilotTimer).hop = s.hop ∧ (s.reloadPilotTimer).power = s.power ∧
    (s.reloadPilotTimer).link = s.link ∧ (s.reloadPilotTimer).intake = s.intake ∧
    (s.reloadPilotTimer).monitor = s.monitor ∧ (s.reloadPilotTimer).host = s.host ∧
    (s.reloadPilotTimer).settings = s.settings ∧ (s.reloadPilotTimer).freeCount = s.freeCount := by
  simp [State.reloadPilotTimer]

@[simp] theorem State.expirePilotTimer_frame :
    (s.expirePilotTimer).pending = s.pending ∧ (s.expirePilotTimer).resetLine = s.resetLine ∧
    (s.expirePilotTimer).table = s.table ∧ (s.expirePilotTimer).est = s.est ∧
    (s.expirePilotTimer).fade = s.fade ∧ (s.expirePilotTimer).decision = s.decision ∧
    (s.expirePilotTimer).hop = s.hop ∧ (s.expirePilotTimer).power = s.power ∧
    (s.expirePilotTimer).link = s.link ∧ (s.expirePilotTimer).intake = s.intake ∧
    (s.expirePilotTimer).monitor = s.monitor ∧ (s.expirePilotTimer).settings = s.settings ∧
    (s.expirePilotTimer).freeCount = s.freeCount := by
  simp [State.expirePilotTimer]

@[simp] theorem State.advancePilotTimer_frame :
    (s.advancePilotTimer).pending = s.pending ∧ (s.advancePilotTimer).resetLine = s.resetLine ∧
    (s.advancePilotTimer).table = s.table ∧ (s.advancePilotTimer).est = s.est ∧
    (s.advancePilotTimer).fade = s.fade ∧ (s.advancePilotTimer).decision = s.decision ∧
    (s.advancePilotTimer).hop = s.hop ∧ (s.advancePilotTimer).power = s.power ∧
    (s.advancePilotTimer).link = s.link ∧ (s.advancePilotTimer).intake = s.intake ∧
    (s.advancePilotTimer).monitor = s.monitor ∧ (s.advancePilotTimer).settings = s.settings ∧
    (s.advancePilotTimer).freeCount = s.freeCount := by
  unfold State.advancePilotTimer; (repeat' split) <;> simp

@[simp] theorem State.payPilot_frame (pilot : Bool) :
    (s.payPilot pilot).pending = s.pending ∧ (s.payPilot pilot).resetLine = s.resetLine ∧
    (s.payPilot pilot).table = s.table ∧ (s.payPilot pilot).est = s.est ∧ (s.payPilot pilot).fade = s.fade ∧
    (s.payPilot pilot).decision = s.decision ∧ (s.payPilot pilot).hop = s.hop ∧
    (s.payPilot pilot).power = s.power ∧ (s.payPilot pilot).link = s.link ∧
    (s.payPilot pilot).intake = s.intake ∧ (s.payPilot pilot).monitor = s.monitor ∧
    (s.payPilot pilot).host = s.host ∧ (s.payPilot pilot).settings = s.settings ∧
    (s.payPilot pilot).freeCount = s.freeCount := by
  simp [State.payPilot]

@[simp] theorem State.txSwitched_frame :
    (s.txSwitched).pending = s.pending ∧ (s.txSwitched).resetLine = s.resetLine ∧
    (s.txSwitched).table = s.table ∧ (s.txSwitched).est = s.est ∧ (s.txSwitched).fade = s.fade ∧
    (s.txSwitched).decision = s.decision ∧ (s.txSwitched).hop = s.hop ∧ (s.txSwitched).tx = s.tx ∧
    (s.txSwitched).power = s.power ∧ (s.txSwitched).link = s.link ∧ (s.txSwitched).intake = s.intake ∧
    (s.txSwitched).monitor = s.monitor ∧ (s.txSwitched).settings = s.settings ∧
    (s.txSwitched).freeCount = s.freeCount := by
  simp [State.txSwitched]

@[simp] theorem State.cancelStaged_frame (n : ProfileSet) :
    (s.cancelStaged n).pending = s.pending ∧ (s.cancelStaged n).resetLine = s.resetLine ∧
    (s.cancelStaged n).table = s.table ∧ (s.cancelStaged n).est = s.est ∧ (s.cancelStaged n).fade = s.fade ∧
    (s.cancelStaged n).decision = s.decision ∧ (s.cancelStaged n).power = s.power ∧
    (s.cancelStaged n).link = s.link ∧ (s.cancelStaged n).intake = s.intake ∧
    (s.cancelStaged n).monitor = s.monitor ∧ (s.cancelStaged n).host = s.host ∧
    (s.cancelStaged n).settings = s.settings ∧ (s.cancelStaged n).freeCount = s.freeCount := by
  unfold State.cancelStaged; (repeat' split) <;> simp

@[simp] theorem State.settleDrop_frame (p : Profile) :
    (s.settleDrop p).pending = s.pending ∧ (s.settleDrop p).resetLine = s.resetLine ∧
    (s.settleDrop p).table = s.table ∧ (s.settleDrop p).est = s.est ∧ (s.settleDrop p).fade = s.fade ∧
    (s.settleDrop p).decision = s.decision ∧ (s.settleDrop p).power = s.power ∧
    (s.settleDrop p).link = s.link ∧ (s.settleDrop p).intake = s.intake ∧
    (s.settleDrop p).monitor = s.monitor ∧ (s.settleDrop p).host = s.host ∧
    (s.settleDrop p).settings = s.settings ∧ (s.settleDrop p).freeCount = s.freeCount := by
  unfold State.settleDrop; (repeat' split) <;> simp

@[simp] theorem State.dropActive_frame (n : ProfileSet) :
    (s.dropActive n).pending = s.pending ∧ (s.dropActive n).resetLine = s.resetLine ∧
    (s.dropActive n).table = s.table ∧ (s.dropActive n).est = s.est ∧ (s.dropActive n).fade = s.fade ∧
    (s.dropActive n).decision = s.decision ∧ (s.dropActive n).power = s.power ∧
    (s.dropActive n).link = s.link ∧ (s.dropActive n).intake = s.intake ∧
    (s.dropActive n).monitor = s.monitor ∧ (s.dropActive n).settings = s.settings ∧
    (s.dropActive n).freeCount = s.freeCount := by
  unfold State.dropActive; dsimp only; (repeat' split) <;> simp

@[simp] theorem State.countStaged_frame :
    (s.countStaged).pending = s.pending ∧ (s.countStaged).resetLine = s.resetLine ∧
    (s.countStaged).table = s.table ∧ (s.countStaged).est = s.est ∧ (s.countStaged).fade = s.fade ∧
    (s.countStaged).decision = s.decision ∧ (s.countStaged).power = s.power ∧ (s.countStaged).link = s.link ∧
    (s.countStaged).intake = s.intake ∧ (s.countStaged).monitor = s.monitor ∧
    (s.countStaged).settings = s.settings ∧ (s.countStaged).freeCount = s.freeCount := by
  unfold State.countStaged; dsimp only; (repeat' split) <;> simp

@[simp] theorem State.send_frame (d : Descriptor) :
    (s.send d).pending = s.pending ∧ (s.send d).resetLine = s.resetLine ∧ (s.send d).table = s.table ∧
    (s.send d).est = s.est ∧ (s.send d).fade = s.fade ∧ (s.send d).decision = s.decision ∧
    (s.send d).hop = s.hop ∧ (s.send d).power = s.power ∧ (s.send d).link = s.link ∧
    (s.send d).monitor = s.monitor ∧ (s.send d).host = s.host ∧ (s.send d).settings = s.settings ∧
    (s.send d).freeCount = s.freeCount := by
  simp [State.send]

@[simp] theorem State.fixEcho_frame (x : SlotRecord) :
    (s.fixEcho x).pending = s.pending ∧ (s.fixEcho x).resetLine = s.resetLine ∧
    (s.fixEcho x).table = s.table ∧ (s.fixEcho x).est = s.est ∧ (s.fixEcho x).fade = s.fade ∧
    (s.fixEcho x).decision = s.decision ∧ (s.fixEcho x).hop = s.hop ∧ (s.fixEcho x).power = s.power ∧
    (s.fixEcho x).link = s.link ∧ (s.fixEcho x).intake = s.intake ∧ (s.fixEcho x).monitor = s.monitor ∧
    (s.fixEcho x).host = s.host ∧ (s.fixEcho x).settings = s.settings ∧
    (s.fixEcho x).freeCount = s.freeCount := by
  simp [State.fixEcho]

@[simp] theorem State.slotSwitches_frame :
    (s.slotSwitches).pending = s.pending ∧ (s.slotSwitches).resetLine = s.resetLine ∧
    (s.slotSwitches).table = s.table ∧ (s.slotSwitches).est = s.est ∧ (s.slotSwitches).fade = s.fade ∧
    (s.slotSwitches).decision = s.decision ∧ (s.slotSwitches).power = s.power ∧
    (s.slotSwitches).link = s.link ∧ (s.slotSwitches).intake = s.intake ∧
    (s.slotSwitches).monitor = s.monitor ∧ (s.slotSwitches).settings = s.settings ∧
    (s.slotSwitches).freeCount = s.freeCount := by
  simp [State.slotSwitches]

@[simp] theorem State.slotFinish_frame (echo : FrameNo) (txlim : Bool) :
    (s.slotFinish echo txlim).pending = s.pending ∧ (s.slotFinish echo txlim).resetLine = s.resetLine ∧
    (s.slotFinish echo txlim).table = s.table ∧ (s.slotFinish echo txlim).est = s.est ∧
    (s.slotFinish echo txlim).fade = s.fade ∧ (s.slotFinish echo txlim).decision = s.decision ∧
    (s.slotFinish echo txlim).link = s.link ∧ (s.slotFinish echo txlim).monitor = s.monitor ∧
    (s.slotFinish echo txlim).settings = s.settings ∧ (s.slotFinish echo txlim).freeCount = s.freeCount := by
  simp [State.slotFinish]

@[simp] theorem State.assembleReport_frame (t : WatchTrigger) :
    (s.assembleReport t).pending = s.pending ∧ (s.assembleReport t).resetLine = s.resetLine ∧
    (s.assembleReport t).table = s.table ∧ (s.assembleReport t).est = s.est ∧
    (s.assembleReport t).fade = s.fade ∧ (s.assembleReport t).decision = s.decision ∧
    (s.assembleReport t).hop = s.hop ∧ (s.assembleReport t).tx = s.tx ∧
    (s.assembleReport t).power = s.power ∧ (s.assembleReport t).link = s.link ∧
    (s.assembleReport t).intake = s.intake ∧ (s.assembleReport t).monitor = s.monitor ∧
    (s.assembleReport t).settings = s.settings ∧ (s.assembleReport t).freeCount = s.freeCount := by
  simp [State.assembleReport]

/-- Reports assembled one after another change the Host Link Unit alone. -/
theorem State.assembleEach_eq (ts : List WatchTrigger) :
    ∀ s : State, ts.foldl State.assembleReport s =
      { s with host := (ts.foldl State.assembleReport s).host } := by
  induction ts with
  | nil => exact fun _ => rfl
  | cons t ts ih => exact fun s => (ih (s.assembleReport t)).trans rfl

/-- R180: the reports that wait are assembled: the Host Link Unit alone changes. -/
theorem State.assembleReports_eq : s.assembleReports = { s with host := s.assembleReports.host } :=
  State.assembleEach_eq _ s

@[simp] theorem State.assembleReports_frame :
    (s.assembleReports).pending = s.pending ∧ (s.assembleReports).resetLine = s.resetLine ∧
    (s.assembleReports).table = s.table ∧ (s.assembleReports).est = s.est ∧
    (s.assembleReports).fade = s.fade ∧ (s.assembleReports).decision = s.decision ∧
    (s.assembleReports).hop = s.hop ∧ (s.assembleReports).tx = s.tx ∧ (s.assembleReports).power = s.power ∧
    (s.assembleReports).link = s.link ∧ (s.assembleReports).intake = s.intake ∧
    (s.assembleReports).monitor = s.monitor ∧ (s.assembleReports).settings = s.settings ∧
    (s.assembleReports).freeCount = s.freeCount := by
  refine ⟨?_, ?_, ?_, ?_, ?_, ?_, ?_, ?_, ?_, ?_, ?_, ?_, ?_, ?_⟩ <;> rw [State.assembleReports_eq]

@[simp] theorem State.reportEarlier_frame :
    (s.reportEarlier).pending = s.pending ∧ (s.reportEarlier).resetLine = s.resetLine ∧
    (s.reportEarlier).table = s.table ∧ (s.reportEarlier).est = s.est ∧ (s.reportEarlier).fade = s.fade ∧
    (s.reportEarlier).decision = s.decision ∧ (s.reportEarlier).hop = s.hop ∧ (s.reportEarlier).tx = s.tx ∧
    (s.reportEarlier).power = s.power ∧ (s.reportEarlier).link = s.link ∧
    (s.reportEarlier).intake = s.intake ∧ (s.reportEarlier).monitor = s.monitor ∧
    (s.reportEarlier).settings = s.settings ∧ (s.reportEarlier).freeCount = s.freeCount := by
  unfold State.reportEarlier; split <;> simp

@[simp] theorem State.reportInSlot_frame (point : SlotPoint) :
    (s.reportInSlot point).pending = s.pending ∧ (s.reportInSlot point).resetLine = s.resetLine ∧
    (s.reportInSlot point).table = s.table ∧ (s.reportInSlot point).est = s.est ∧
    (s.reportInSlot point).fade = s.fade ∧ (s.reportInSlot point).decision = s.decision ∧
    (s.reportInSlot point).hop = s.hop ∧ (s.reportInSlot point).tx = s.tx ∧
    (s.reportInSlot point).power = s.power ∧ (s.reportInSlot point).link = s.link ∧
    (s.reportInSlot point).intake = s.intake ∧ (s.reportInSlot point).monitor = s.monitor ∧
    (s.reportInSlot point).settings = s.settings ∧ (s.reportInSlot point).freeCount = s.freeCount := by
  unfold State.reportInSlot; split <;> simp

/-- R131, R133: at a slot outside RUN the TXLIM work comes before A is set or after it (assumption 31). -/
theorem State.idlePower_cases (txlim : Bool) :
    s.idlePower txlim = (s.limitWork txlim).setIdleAtten ∨
    s.idlePower txlim = (s.setIdleAtten.limitWork txlim).setIdleAtten := by
  unfold State.idlePower; split <;> [exact .inr rfl; exact .inl rfl]

/-- R180: at a point within a slot the reports that wait are assembled, or nothing happens (assumption 30). -/
theorem State.reportInSlot_cases (point : SlotPoint) :
    s.reportInSlot point = s ∨ s.reportInSlot point = s.assembleReports := by
  unfold State.reportInSlot; split <;> [exact .inr rfl; exact .inl rfl]

@[simp] theorem State.idlePower_frame (txlim : Bool) :
    (s.idlePower txlim).pending = s.pending ∧ (s.idlePower txlim).resetLine = s.resetLine ∧
    (s.idlePower txlim).table = s.table ∧ (s.idlePower txlim).est = s.est ∧
    (s.idlePower txlim).fade = s.fade ∧ (s.idlePower txlim).decision = s.decision ∧
    (s.idlePower txlim).link = s.link ∧ (s.idlePower txlim).intake = s.intake ∧
    (s.idlePower txlim).monitor = s.monitor ∧ (s.idlePower txlim).settings = s.settings ∧
    (s.idlePower txlim).freeCount = s.freeCount := by
  unfold State.idlePower; split <;> simp

@[simp] theorem State.slotIdle_frame (echo : FrameNo) (txlim : Bool) :
    (s.slotIdle echo txlim).pending = s.pending ∧ (s.slotIdle echo txlim).resetLine = s.resetLine ∧
    (s.slotIdle echo txlim).table = s.table ∧ (s.slotIdle echo txlim).est = s.est ∧
    (s.slotIdle echo txlim).fade = s.fade ∧ (s.slotIdle echo txlim).decision = s.decision ∧
    (s.slotIdle echo txlim).link = s.link ∧ (s.slotIdle echo txlim).monitor = s.monitor ∧
    (s.slotIdle echo txlim).settings = s.settings ∧ (s.slotIdle echo txlim).freeCount = s.freeCount := by
  simp [State.slotIdle]

@[simp] theorem State.trySwapAt_frame (place : SwapPlace) (here : SwapPlace) :
    (s.trySwapAt place here).pending = s.pending ∧ (s.trySwapAt place here).resetLine = s.resetLine ∧
    (s.trySwapAt place here).est = s.est ∧ (s.trySwapAt place here).fade = s.fade ∧
    (s.trySwapAt place here).decision = s.decision ∧ (s.trySwapAt place here).hop = s.hop ∧
    (s.trySwapAt place here).tx = s.tx ∧ (s.trySwapAt place here).link = s.link ∧
    (s.trySwapAt place here).intake = s.intake ∧ (s.trySwapAt place here).monitor = s.monitor ∧
    (s.trySwapAt place here).settings = s.settings ∧ (s.trySwapAt place here).freeCount = s.freeCount := by
  unfold State.trySwapAt; (repeat' split) <;> simp

@[simp] theorem State.slotEvent_frame (x : SlotRecord) (txlim : Bool) :
    (s.slotEvent x txlim).pending = s.pending ∧ (s.slotEvent x txlim).resetLine = s.resetLine ∧
    (s.slotEvent x txlim).est = s.est ∧ (s.slotEvent x txlim).fade = s.fade ∧
    (s.slotEvent x txlim).decision = s.decision ∧ (s.slotEvent x txlim).link = s.link ∧
    (s.slotEvent x txlim).monitor = s.monitor ∧ (s.slotEvent x txlim).settings = s.settings := by
  unfold State.slotEvent; dsimp only; split <;> simp

@[simp] theorem State.enterSync_frame :
    (s.enterSync).pending = s.pending ∧ (s.enterSync).resetLine = s.resetLine ∧ (s.enterSync).fade = s.fade ∧
    (s.enterSync).decision = s.decision ∧ (s.enterSync).tx = s.tx ∧ (s.enterSync).intake = s.intake ∧
    (s.enterSync).host = s.host ∧ (s.enterSync).settings = s.settings ∧
    (s.enterSync).freeCount = s.freeCount := by
  simp [State.enterSync]

@[simp] theorem State.linkLoss_frame :
    (s.linkLoss).pending = s.pending ∧ (s.linkLoss).resetLine = s.resetLine ∧ (s.linkLoss).intake = s.intake ∧
    (s.linkLoss).settings = s.settings ∧ (s.linkLoss).freeCount = s.freeCount := by
  simp [State.linkLoss]

@[simp] theorem State.searchReached_frame :
    (s.searchReached).pending = s.pending ∧ (s.searchReached).resetLine = s.resetLine ∧
    (s.searchReached).intake = s.intake ∧ (s.searchReached).settings = s.settings ∧
    (s.searchReached).freeCount = s.freeCount := by
  unfold State.searchReached; (repeat' split) <;> simp

@[simp] theorem State.enterRun_frame :
    (s.enterRun).pending = s.pending ∧ (s.enterRun).resetLine = s.resetLine ∧ (s.enterRun).table = s.table ∧
    (s.enterRun).est = s.est ∧ (s.enterRun).fade = s.fade ∧ (s.enterRun).decision = s.decision ∧
    (s.enterRun).hop = s.hop ∧ (s.enterRun).tx = s.tx ∧ (s.enterRun).intake = s.intake ∧
    (s.enterRun).monitor = s.monitor ∧ (s.enterRun).settings = s.settings ∧
    (s.enterRun).freeCount = s.freeCount := by
  simp [State.enterRun]

@[simp] theorem State.watchLink_frame (good : Option Metrics) :
    (s.watchLink good).pending = s.pending ∧ (s.watchLink good).resetLine = s.resetLine ∧
    (s.watchLink good).intake = s.intake ∧ (s.watchLink good).settings = s.settings ∧
    (s.watchLink good).freeCount = s.freeCount := by
  unfold State.watchLink; dsimp only; split <;> simp

@[simp] theorem State.linkEntry_frame (good : Option Metrics) :
    (s.linkEntry good).pending = s.pending ∧ (s.linkEntry good).resetLine = s.resetLine ∧
    (s.linkEntry good).intake = s.intake ∧ (s.linkEntry good).settings = s.settings ∧
    (s.linkEntry good).freeCount = s.freeCount := by
  unfold State.linkEntry; (repeat' split) <;> simp

@[simp] theorem State.expireAcqTimer_frame :
    (s.expireAcqTimer).pending = s.pending ∧ (s.expireAcqTimer).resetLine = s.resetLine ∧
    (s.expireAcqTimer).fade = s.fade ∧ (s.expireAcqTimer).decision = s.decision ∧
    (s.expireAcqTimer).tx = s.tx ∧ (s.expireAcqTimer).intake = s.intake ∧
    (s.expireAcqTimer).settings = s.settings ∧ (s.expireAcqTimer).freeCount = s.freeCount := by
  simp [State.expireAcqTimer]

@[simp] theorem State.startLink_frame :
    (s.startLink).pending = s.pending ∧ (s.startLink).resetLine = s.resetLine ∧ (s.startLink).fade = s.fade ∧
    (s.startLink).decision = s.decision ∧ (s.startLink).host = s.host ∧ (s.startLink).settings = s.settings ∧
    (s.startLink).freeCount = s.freeCount := by
  simp [State.startLink]

@[simp] theorem State.stopCommon_frame :
    (s.stopCommon).pending = s.pending ∧ (s.stopCommon).resetLine = s.resetLine ∧
    (s.stopCommon).table = s.table ∧ (s.stopCommon).est = s.est ∧ (s.stopCommon).fade = s.fade ∧
    (s.stopCommon).decision = s.decision ∧ (s.stopCommon).hop = s.hop ∧ (s.stopCommon).host = s.host ∧
    (s.stopCommon).settings = s.settings ∧ (s.stopCommon).freeCount = s.freeCount := by
  simp [State.stopCommon]

@[simp] theorem State.stopLink_frame :
    (s.stopLink).pending = s.pending ∧ (s.stopLink).resetLine = s.resetLine ∧ (s.stopLink).table = s.table ∧
    (s.stopLink).est = s.est ∧ (s.stopLink).settings = s.settings ∧ (s.stopLink).freeCount = s.freeCount := by
  unfold State.stopLink; (repeat' split) <;> simp

@[simp] theorem State.monitorEntry_frame (v : EntryValues) :
    (s.monitorEntry v).pending = s.pending ∧ (s.monitorEntry v).resetLine = s.resetLine ∧
    (s.monitorEntry v).table = s.table ∧ (s.monitorEntry v).est = s.est ∧ (s.monitorEntry v).fade = s.fade ∧
    (s.monitorEntry v).decision = s.decision ∧ (s.monitorEntry v).hop = s.hop ∧ (s.monitorEntry v).tx = s.tx ∧
    (s.monitorEntry v).power = s.power ∧ (s.monitorEntry v).link = s.link ∧
    (s.monitorEntry v).intake = s.intake ∧ (s.monitorEntry v).host = s.host ∧
    (s.monitorEntry v).settings = s.settings ∧ (s.monitorEntry v).freeCount = s.freeCount := by
  simp [State.monitorEntry]

@[simp] theorem State.takeFarMask_frame (good : Option Metrics) :
    (s.takeFarMask good).pending = s.pending ∧ (s.takeFarMask good).resetLine = s.resetLine ∧
    (s.takeFarMask good).est = s.est ∧ (s.takeFarMask good).fade = s.fade ∧
    (s.takeFarMask good).decision = s.decision ∧ (s.takeFarMask good).hop = s.hop ∧
    (s.takeFarMask good).tx = s.tx ∧ (s.takeFarMask good).power = s.power ∧
    (s.takeFarMask good).link = s.link ∧ (s.takeFarMask good).intake = s.intake ∧
    (s.takeFarMask good).monitor = s.monitor ∧ (s.takeFarMask good).host = s.host ∧
    (s.takeFarMask good).settings = s.settings ∧ (s.takeFarMask good).freeCount = s.freeCount := by
  unfold State.takeFarMask; (repeat' split) <;> simp

@[simp] theorem State.endSecond_frame :
    (s.endSecond).pending = s.pending ∧ (s.endSecond).resetLine = s.resetLine ∧
    (s.endSecond).table = s.table ∧ (s.endSecond).est = s.est ∧ (s.endSecond).fade = s.fade ∧
    (s.endSecond).decision = s.decision ∧ (s.endSecond).hop = s.hop ∧ (s.endSecond).tx = s.tx ∧
    (s.endSecond).power = s.power ∧ (s.endSecond).link = s.link ∧ (s.endSecond).intake = s.intake ∧
    (s.endSecond).settings = s.settings ∧ (s.endSecond).freeCount = s.freeCount := by
  simp [State.endSecond]

@[simp] theorem State.enterResync_frame :
    (s.enterResync).pending = s.pending ∧ (s.enterResync).resetLine = s.resetLine ∧
    (s.enterResync).table = s.table ∧ (s.enterResync).fade = s.fade ∧ (s.enterResync).decision = s.decision ∧
    (s.enterResync).hop = s.hop ∧ (s.enterResync).tx = s.tx ∧ (s.enterResync).power = s.power ∧
    (s.enterResync).link = s.link ∧ (s.enterResync).settings = s.settings ∧
    (s.enterResync).freeCount = s.freeCount := by
  simp [State.enterResync]

@[simp] theorem State.enterSearch_frame :
    (s.enterSearch).pending = s.pending ∧ (s.enterSearch).resetLine = s.resetLine ∧
    (s.enterSearch).settings = s.settings ∧ (s.enterSearch).freeCount = s.freeCount := by
  simp [State.enterSearch]

@[simp] theorem State.setValue_frame (id : Nat) (v : Int) :
    ((s.setValue id v).2).pending = s.pending ∧ ((s.setValue id v).2).resetLine = s.resetLine ∧
    ((s.setValue id v).2).table = s.table ∧ ((s.setValue id v).2).est = s.est ∧
    ((s.setValue id v).2).fade = s.fade ∧ ((s.setValue id v).2).decision = s.decision ∧
    ((s.setValue id v).2).hop = s.hop ∧ ((s.setValue id v).2).power = s.power ∧
    ((s.setValue id v).2).link = s.link ∧ ((s.setValue id v).2).intake = s.intake ∧
    ((s.setValue id v).2).monitor = s.monitor ∧ ((s.setValue id v).2).host = s.host ∧
    ((s.setValue id v).2).freeCount = s.freeCount := by
  unfold State.setValue; dsimp only; (repeat' split) <;> simp [State.putSetting]

@[simp] theorem State.writeShadow_frame (i : Profile) (r : ProfileRow) :
    (s.writeShadow i r).pending = s.pending ∧ (s.writeShadow i r).resetLine = s.resetLine ∧
    (s.writeShadow i r).est = s.est ∧ (s.writeShadow i r).fade = s.fade ∧
    (s.writeShadow i r).decision = s.decision ∧ (s.writeShadow i r).hop = s.hop ∧
    (s.writeShadow i r).tx = s.tx ∧ (s.writeShadow i r).power = s.power ∧ (s.writeShadow i r).link = s.link ∧
    (s.writeShadow i r).intake = s.intake ∧ (s.writeShadow i r).monitor = s.monitor ∧
    (s.writeShadow i r).host = s.host ∧ (s.writeShadow i r).settings = s.settings ∧
    (s.writeShadow i r).freeCount = s.freeCount := by
  simp [State.writeShadow]

@[simp] theorem State.holdReset_frame :
    (s.holdReset).pending = s.pending ∧ (s.holdReset).fade = s.fade ∧ (s.holdReset).decision = s.decision ∧
    (s.holdReset).hop = s.hop ∧ (s.holdReset).tx = s.tx ∧ (s.holdReset).power = s.power ∧
    (s.holdReset).link = s.link ∧ (s.holdReset).settings = s.settings ∧
    (s.holdReset).freeCount = s.freeCount := by
  simp [State.holdReset]

end Sys2Proof.Machine
end

