-- ==== Sys2Proof/Laws/Entry.lean ====
section
/-! SUPPORT. One entry as a whole: the order of the blocks is one the manual allows, and what every block keeps, the
entry keeps. What an entry does (`State.Handles`) is said once, for every order. -/

namespace Sys2Proof.Machine

/-- The order taken at an entry is allowed, whatever the free value says (R16). -/
theorem entryOrder_allowed (k : Nat) : orderAllowed (entryOrder k) = true := by
  unfold entryOrder
  split
  · assumption
  · decide

/-- The changes of the Host Link Unit, a reply apart. -/
inductive HostMove : HostLink → HostLink → Prop where
  | refl (h : HostLink) : HostMove h h
  | trans {a b c : HostLink} : HostMove a b → HostMove b c → HostMove a c
  | flags (h : HostLink) (raised enabled : BitVec 22) : HostMove h (h.setFlags raised enabled)
  | notice (h : HostLink) (m : Message) : HostMove h (h.notice m)
  | watch (h : HostLink) (w : WatchState) : HostMove h { h with watch := w }
  | receiver (h : HostLink) (c : Option (List Byte)) (n : Nat) : HostMove h { h with collecting := c, quiet := n }
  | accept (h : HostLink) (m : Message) : h.inBuf.length < 2 → HostMove h { h with inBuf := h.inBuf ++ [m] }
  | taken (h : HostLink) : HostMove h { h with inBuf := h.inBuf.drop 1 }
  | sent (h : HostLink) : HostMove h { h with outQueue := h.outQueue.drop 1 }
  | started (h : HostLink) (m : Message) : HostMove h { h with outQueue := [m] }
  | restarting (h : HostLink) (b : Bool) : HostMove h { h with restarting := b }

theorem HostMove.raise (h : HostLink) (f : EventFlag) : HostMove h (h.raise f) := by
  unfold HostLink.raise
  dsimp only
  split
  · exact .refl h
  · split <;> [exact .trans (.flags h _ _) (.notice _ _); exact .flags h _ _]

/-- A place that is free for a reply stays free. -/
theorem HostMove.room {a b : HostLink} (h : HostMove a b) : a.outQueue.length < 8 → b.outQueue.length < 8 := by
  induction h with
  | trans _ _ h1 h2 => exact fun h => h2 (h1 h)
  | notice h m =>
    unfold HostLink.notice HostLink.freePlaces Config.outQueueCapacity
    split
    · simp; omega
    · simp
  | sent h => simp; omega
  | _ => simp [HostLink.setFlags]

theorem HostMove.raiseIf (s : State) (c : Bool) (f : EventFlag) : HostMove s.host (s.raiseIf c f).host := by
  unfold State.raiseIf
  dsimp only
  split <;> [exact .raise _ f; exact .refl _]

theorem HostMove.assembleReport (s : State) (t : WatchTrigger) : HostMove s.host (s.assembleReport t).host :=
  .trans (.trans (.watch _ _) (.notice _ _)) (.raiseIf { s with host := _ } _ _)

/-- R180: the reports that wait are assembled: moves of the Host Link Unit. -/
theorem HostMove.assembleReports (s : State) : HostMove s.host s.assembleReports.host := by
  have key : ∀ (ts : List WatchTrigger) (s : State), HostMove s.host (ts.foldl State.assembleReport s).host := by
    intro ts
    induction ts with
    | nil => exact fun _ => .refl _
    | cons t ts ih => exact fun s => .trans (.assembleReport s t) (ih _)
  exact key _ s

/-- What a property must survive for an entry to keep it. `Q` is what is known of the entry. -/
structure EntryLaw (P : State → Prop) (Q : Entry → Prop) : Prop where
  outer         : ∀ s n h, HostMove s.host h → P s → P { s with freeCount := n, host := h }
  clearFresh    : ∀ s, P s → P s.clearFresh
  estimate      : ∀ s e, Q e → P s → P (s.estimate e).1
  trackFade     : ∀ s v, P s → P (s.trackFade v)
  runDecision   : ∀ s v, P s → P (s.runDecision v)
  signal        : ∀ s good, P s → P (s.signal good)
  powerReceive  : ∀ s v, P s → P (s.powerReceive v)
  powerTransmit : ∀ s good, P s → P (s.powerTransmit good)
  monitorEntry  : ∀ s v, P s → P (s.monitorEntry v)
  takeFarMask   : ∀ s good, P s → P (s.takeFarMask good)
  swapAtEntry   : ∀ s, P s → P s.swapAtEntry
  linkEntry     : ∀ s good, P s → P (s.linkEntry good)

namespace EntryLaw

variable {P : State → Prop} {Q : Entry → Prop}

theorem raise (h : EntryLaw P Q) (f : EventFlag) (s : State) (hs : P s) : P (s.raise f) :=
  h.outer s s.freeCount _ (.raise _ f) hs

theorem raiseIf (h : EntryLaw P Q) (c : Bool) (f : EventFlag) (s : State) (hs : P s) : P (s.raiseIf c f) :=
  h.outer s s.freeCount _ (.raiseIf s c f) hs

theorem block (h : EntryLaw P Q) {e : Entry} (he : Q e) (good : Option Metrics) (p : EntryProgress)
    (b : EntryBlock) (hp : P p.state) : P (p.block e good b).state := by
  cases b <;> simp only [EntryProgress.block, EntryProgress.after]
  case estimator => exact h.estimate _ _ he hp
  case fadeTracker => split <;> [exact h.trackFade _ _ hp; exact hp]
  case decision => split <;> [exact h.runDecision _ _ hp; exact hp]
  case hopSignalling => exact h.signal _ _ hp
  case powerReceive => split <;> [exact h.powerReceive _ _ hp; exact hp]
  case powerTransmit => exact h.powerTransmit _ _ hp
  case monitor => split <;> [exact h.monitorEntry _ _ hp; exact hp]
  case farMask => exact h.takeFarMask _ _ hp
  case swap => exact h.swapAtEntry _ hp
  case linkState => exact h.linkEntry _ _ hp

theorem assembleReports (h : EntryLaw P Q) (s : State) (hs : P s) : P s.assembleReports := by
  rw [State.assembleReports_eq]
  exact h.outer s s.freeCount _ (.assembleReports s) hs

theorem advance (h : EntryLaw P Q) {e : Entry} (he : Q e) (good : Option Metrics) (p : EntryProgress)
    (b : EntryBlock) (hp : P p.state) : P (p.advance e good b).state := by
  unfold EntryProgress.advance EntryProgress.report
  split <;> [exact h.assembleReports _ (h.block he good p b hp); exact h.block he good p b hp]

theorem blocks (h : EntryLaw P Q) {e : Entry} (he : Q e) (good : Option Metrics) (order : List EntryBlock) :
    ∀ p : EntryProgress, P p.state → P (order.foldl (EntryProgress.advance e good) p).state := by
  induction order with
  | nil => exact fun _ hp => hp
  | cons b bs ih => exact fun p hp => ih _ (h.advance he good p b hp)

/-- What holds before an entry holds as its blocks begin. -/
theorem begins (h : EntryLaw P Q) (s : State) (hs : P s) : P s.reportEarlier.clearFresh.countFree.watchEntry := by
  have h1 : P s.reportEarlier := by
    unfold State.reportEarlier; split <;> [exact h.assembleReports s hs; exact hs]
  exact h.outer s.reportEarlier.clearFresh _ _ (.watch _ _) (h.clearFresh _ h1)

/-- An entry keeps what each of its blocks keeps. -/
theorem handleEntry (h : EntryLaw P Q) {e : Entry} (he : Q e) (s : State) (hs : P s) : P (s.handleEntry e) :=
  h.blocks he _ _ { state := s.reportEarlier.clearFresh.countFree.watchEntry, values := none } (h.begins s hs)

theorem deliver (h : EntryLaw P Q) (m : Metrics) (resumed valid : Bool)
    (he : Q { frame := m.frame, resumed := resumed, record := some m, headerValid := valid }) (s : State)
    (hs : P s) : P (s.deliver m resumed valid) :=
  h.handleEntry he _ (h.raiseIf _ _ s hs)

theorem deliverHeld (h : EntryLaw P Q) (he : ∀ n, Q (heldFrame n)) (k : Nat) :
    ∀ (s : State) (first : FrameNo), P s → P (s.deliverHeld first k) := by
  induction k with
  | zero => exact fun _ _ hs => hs
  | succ k ih => exact fun s first hs => ih _ _ (h.handleEntry (he first) s hs)

end EntryLaw

/-- An entry leaves the settings, the intake, the RESET line and the queue of commands alone. -/
theorem State.handleEntry_frame (s : State) (e : Entry) :
    (s.handleEntry e).settings = s.settings ∧ (s.handleEntry e).intake = s.intake ∧
      (s.handleEntry e).resetLine = s.resetLine ∧ (s.handleEntry e).pending = s.pending := by
  have law : EntryLaw (fun t => t.settings = s.settings ∧ t.intake = s.intake ∧ t.resetLine = s.resetLine ∧
      t.pending = s.pending) (fun _ => True) := by
    constructor <;> intros <;> simp_all
  exact law.handleEntry trivial s ⟨rfl, rfl, rfl, rfl⟩

/-! ## What an entry does -/

theorem State.entryWaits_iff (s : State) : s.host.watch.entryWaits = true ↔ s.EntryReportWaits := by
  unfold WatchState.entryWaits State.EntryReportWaits
  rw [List.any_eq_true]
  exact ⟨fun ⟨x, hx, h⟩ => by cases x <;> simp_all [WatchTrigger.byEntry],
    fun h => h.elim (fun h => ⟨_, h, rfl⟩) fun h => ⟨_, h, rfl⟩⟩

/-- R17: the good header of an entry. -/
theorem Entry.good_shows (e : Entry) (mode : DivMode) : e.Shows mode (e.good mode) := by
  intro m
  unfold Entry.good Entry.held
  cases hr : e.record with
  | none => simp
  | some r => cases mode <;> cases e.headerValid <;> simp [Metrics.Usable] <;>
      cases hm : r.mainValid <;> cases hs : r.spaceValid <;> simp <;> rintro rfl <;> simp [hm, hs]

/-- After a block the reports that wait are assembled, or they wait on. -/
theorem EntryProgress.report_cases (b : EntryBlock) (p : EntryProgress) : (p.report b).values = p.values ∧
    ((p.report b).state = p.state ∨
      (p.report b).state = p.state.assembleReports ∧ (p.values = none → ¬ p.state.EntryReportWaits)) := by
  unfold EntryProgress.report
  split
  · rename_i h
    refine ⟨rfl, .inr ⟨rfl, fun hv => ?_⟩⟩
    rw [← State.entryWaits_iff]
    have := h.2
    simp_all
  · exact ⟨rfl, .inl rfl⟩

/-- The blocks after the Estimator handle the entry with the values it handed on. -/
theorem entryPasses_after (e : Entry) (good : Option Metrics) (v : EntryValues) (bs : List EntryBlock) :
    ∀ p : EntryProgress, p.values = some v → EntryBlock.estimator ∉ bs →
      EntryPasses e good v bs p.state (bs.foldl (EntryProgress.advance e good) p).state := by
  induction bs with
  | nil => exact fun _ _ _ => rfl
  | cons b bs ih =>
    intro p hv hb
    simp only [List.mem_cons, not_or] at hb
    have acts : EntryActs e good v p.state (p.block e good b).state b := by
      cases b <;> simp_all [EntryActs, EntryProgress.block, EntryProgress.after]
    have kept : (p.block e good b).values = some v := by
      cases b <;> simp_all [EntryProgress.block, EntryProgress.after]
    obtain ⟨h1, h2⟩ := (p.block e good b).report_cases b
    exact ⟨_, _, acts, ih _ (h1.trans kept) hb.2, h2.imp id fun h => ⟨h.1, fun h => absurd h hb.2⟩⟩

/-- The blocks handle the entry in order, where none that reads the Estimator's values comes before it. -/
theorem entryPasses_all (e : Entry) (good : Option Metrics) (post : List EntryBlock)
    (hpost : EntryBlock.estimator ∉ post) (pre : List EntryBlock) :
    ∀ p : EntryProgress, p.values = none →
      (∀ b ∈ pre, b ≠ .estimator ∧ b ≠ .fadeTracker ∧ b ≠ .decision ∧ b ≠ .powerReceive ∧ b ≠ .monitor) →
      ∃ v, EntryPasses e good v (pre ++ .estimator :: post) p.state
        ((pre ++ .estimator :: post).foldl (EntryProgress.advance e good) p).state := by
  induction pre with
  | nil =>
    intro p _ _
    obtain ⟨h1, h2⟩ := (p.block e good .estimator).report_cases .estimator
    exact ⟨_, _, _, rfl, entryPasses_after e good _ post _ h1 hpost,
      h2.imp id fun h => ⟨h.1, fun h => absurd h hpost⟩⟩
  | cons b pre ih =>
    intro p hv hb
    have hb' := hb b (by simp)
    have acts : ∀ v, EntryActs e good v p.state (p.block e good b).state b := by
      intro v; cases b <;> simp_all [EntryActs, EntryProgress.block]
    have kept : (p.block e good b).values = none := by
      cases b <;> simp_all [EntryProgress.block]
    obtain ⟨h1, h2⟩ := (p.block e good b).report_cases b
    obtain ⟨v, h⟩ := ih _ (h1.trans kept) fun x hx => hb x (by simp [hx])
    exact ⟨v, _, _, acts v, h, h2.imp id fun h => ⟨h.1, fun _ => h.2 kept⟩⟩

/-- R16: an allowed order, split at the Estimator. -/
theorem orderAllowed_split (order : List EntryBlock) (h : orderAllowed order = true) :
    order.Perm defaultEntryOrder ∧ ∃ pre post, order = pre ++ .estimator :: post ∧ EntryBlock.estimator ∉ pre ∧
      EntryBlock.estimator ∉ post ∧
      ∀ b ∈ pre, b ≠ .fadeTracker ∧ b ≠ .decision ∧ b ≠ .powerReceive ∧ b ≠ .monitor := by
  unfold orderAllowed at h
  simp only [Bool.and_eq_true, beq_iff_eq, List.all_eq_true, List.contains_iff_mem] at h
  obtain ⟨⟨hl, hc⟩, hb⟩ := h
  have perm : order.Perm defaultEntryOrder :=
    ((List.Nodup.subperm (by decide : defaultEntryOrder.Nodup) hc).perm_of_length_le hl.le).symm
  refine ⟨perm, ?_⟩
  obtain ⟨pre, post, rfl, hpre⟩ := List.append_of_mem (hc .estimator (by decide)) |>.elim fun a h => h.elim fun b h =>
    (List.eq_append_cons_of_mem (hc .estimator (by decide)))
  have nodup := perm.nodup_iff.2 (by decide : defaultEntryOrder.Nodup)
  refine ⟨pre, post, rfl, hpre, ?_, ?_⟩
  · exact (List.nodup_cons.1 (List.nodup_append.1 nodup).2.1).1
  · intro b hm
    have key : ∀ c ∈ [EntryBlock.fadeTracker, .decision, .powerReceive, .monitor], b ≠ c := by
      rintro c hc rfl
      have h1 := of_decide_eq_true (hb b hc)
      rw [List.idxOf_append_of_notMem hpre, List.idxOf_append_of_mem hm] at h1
      have := List.idxOf_lt_length_of_mem hm
      simp at h1
      omega
    exact ⟨key _ (by simp), key _ (by simp), key _ (by simp), key _ (by simp)⟩

/-- R16: an entry is handled by each block once, in an order the manual allows, with watch reports between. -/
theorem State.handleEntry_handles (s : State) (e : Entry) : s.Handles e (s.handleEntry e) := by
  obtain ⟨perm, pre, post, ho, hpre, hpost, hb⟩ := orderAllowed_split _ (entryOrder_allowed s.freeCount)
  have hset : s.reportEarlier.settings = s.settings := by simp
  obtain ⟨v, hv⟩ := entryPasses_all e (e.good s.settings.divMode) post hpost pre
    { state := s.reportEarlier.clearFresh.countFree.watchEntry, values := none } rfl
    (fun b hm => ⟨fun h => hpre (h ▸ hm), hb b hm⟩)
  refine ⟨s.reportEarlier, e.good s.settings.divMode, v, entryOrder s.freeCount, fun h => ?_, fun h => ?_,
    e.good_shows _, perm, ?_, ?_⟩
  · exact if_pos ((s.entryWaits_iff).2 h)
  · exact if_neg (mt (s.entryWaits_iff).1 h)
  · rw [ho]
    intro b hm
    rw [List.takeWhile_append_of_pos fun x hx => by
      simp only [ne_eq, decide_not, Bool.not_eq_eq_eq_not, Bool.not_true, decide_eq_false_iff_not]
      rintro rfl
      exact hpre hx] at hm
    exact hb b (by simpa using hm)
  · show EntryPasses e _ v _ _ (State.runBlocks _ e (entryOrder s.freeCount))
    unfold State.runBlocks
    rw [show s.reportEarlier.clearFresh.countFree.watchEntry.settings = s.settings from hset, ho]
    exact hv

/-- R154, R160: an accepted record is delivered as an entry. -/
theorem State.deliver_delivers (s : State) (own : ProfileSet) (m : Metrics) (resumed : Bool) :
    s.Delivers own m resumed (s.deliver m resumed (m.headerValid && inSet own m.rxProfile)) := by
  have key : ∀ c : Bool, s.raiseIf c .rxUnexpected = if c then s.raise .rxUnexpected else s := by rintro (_ | _) <;> rfl
  unfold State.deliver
  rw [key]
  exact State.handleEntry_handles _ _

/-- R154: held frames are delivered one after another. -/
theorem State.deliverHeld_handles (k : Nat) : ∀ (s : State) (n : FrameNo), s.HandlesHeld k n (s.deliverHeld n k) := by
  induction k with
  | zero => exact fun _ _ => rfl
  | succ k ih => exact fun s n => ⟨_, s.handleEntry_handles (heldFrame n), ih _ _⟩

end Sys2Proof.Machine
end

