-- ==== Sys2Proof/Laws/Operands.lean ====
section
/-! SUPPORT. Reading back what the wire formats write: little-endian words and doubles, and the clamp. -/

namespace Sys2Proof.Machine

/-- The two bytes of a word make the word. -/
theorem join16 (w : BitVec 16) : w.extractLsb' 8 8 ++ w.extractLsb' 0 8 = w := by
  apply BitVec.eq_of_getLsbD_eq
  intro i hi
  simp only [BitVec.getLsbD_append, BitVec.getLsbD_extractLsb']
  by_cases h : i < 8
  · simp [h]
  · simp [h, show i - 8 < 8 by omega, show 8 + (i - 8) = i by omega]

/-- The two words of a double make the double. -/
theorem join32 (w : BitVec 32) : w.extractLsb' 16 16 ++ w.extractLsb' 0 16 = w := by
  apply BitVec.eq_of_getLsbD_eq
  intro i hi
  simp only [BitVec.getLsbD_append, BitVec.getLsbD_extractLsb']
  by_cases h : i < 16
  · simp [h]
  · simp [h, show i - 16 < 16 by omega, show 16 + (i - 16) = i by omega]

theorem le16_length (w : BitVec 16) : (le16 w).length = 2 := rfl

theorem le32_length (w : BitVec 32) : (le32 w).length = 4 := rfl

/-- A word is read where it was written. -/
theorem wordAt_le16 (front back : List Byte) (w : BitVec 16) :
    wordAt (front ++ le16 w ++ back) front.length = w := by
  unfold wordAt byteAt le16
  simp [List.getD, join16]

/-- A double is read where it was written. -/
theorem doubleAt_le32 (front back : List Byte) (w : BitVec 32) :
    doubleAt (front ++ le32 w ++ back) front.length = w := by
  have h1 : front ++ le32 w ++ back =
      (front ++ le16 (w.extractLsb' 0 16)) ++ le16 (w.extractLsb' 16 16) ++ back := by simp [le32]
  have h2 : front ++ le32 w ++ back =
      front ++ le16 (w.extractLsb' 0 16) ++ (le16 (w.extractLsb' 16 16) ++ back) := by simp [le32]
  have e1 : wordAt (front ++ le32 w ++ back) (front.length + 2) = w.extractLsb' 16 16 := by
    rw [h1]
    have := wordAt_le16 (front ++ le16 (w.extractLsb' 0 16)) back (w.extractLsb' 16 16)
    simpa [le16_length] using this
  have e2 : wordAt (front ++ le32 w ++ back) front.length = w.extractLsb' 0 16 := by
    rw [h2]
    exact wordAt_le16 _ _ _
  unfold doubleAt
  rw [e1, e2, join32]

theorem clampInt_range (lo hi v : Int) (h : lo ≤ hi) : lo ≤ clampInt lo hi v ∧ clampInt lo hi v ≤ hi := by
  unfold clampInt; split <;> [omega; (split <;> omega)]

theorem clampNat_range (lo hi : Nat) (v : Int) (h : lo ≤ hi) : lo ≤ clampNat lo hi v ∧ clampNat lo hi v ≤ hi := by
  have := clampInt_range lo hi v (by omega)
  unfold clampNat
  omega

end Sys2Proof.Machine
end

