-- ==== Sys2Proof/Laws/Step.lean ====
section
/-! SUPPORT. The induction over the machine, packaged once: a property that each operation of `StepLaw` keeps is kept
by every command and by every millisecond. -/

namespace Sys2Proof.Machine

/-- The range R159 brings the measurements of a record into. -/
structure Metrics.InRange (m : Metrics) : Prop where
  mainRsl  : -400 ≤ m.main.rsl ∧ m.main.rsl ≤ -40
  spaceRsl : -400 ≤ m.space.rsl ∧ m.space.rsl ≤ -40

/-- R159: an entry's record, if it has one, has its fields in range. -/
def Entry.InRange (e : Entry) : Prop := ∀ m, e.record = some m → m.InRange

theorem parseMetrics_inRange (bs : List Byte) : (parseMetrics bs).InRange :=
  ⟨clampInt_range _ _ _ (by decide), clampInt_range _ _ _ (by decide)⟩

/-- R151: a slot waits only while a descriptor is being returned. -/
def Intake.Ordered (i : Intake) : Prop := i.waiting.isSome → i.sending.isSome

/-- An entry's part of `StepLaw`, and what the other commands need. `Entry.InRange` is known of every entry. -/
structure StepLaw (P : State → Prop) : Prop extends EntryLaw P Entry.InRange where
  commands     : ∀ s q, P s → P { s with pending := q }
  /-- changes within the intake's state, the waiting slot and the descriptor being returned among them -/
  intake       : ∀ s i, i.state = s.intake.state → (s.intake.state = .idle → i.silence = s.intake.silence) →
    (s.intake.Ordered → i.Ordered) → P s → P { s with intake := i }
  silence      : ∀ s n, s.intake.silence.isSome → P s → P { s with intake := { s.intake with silence := some n } }
  lock         : ∀ s i, s.intake.state ≠ .idle → i.state = .locked → (s.intake.Ordered → i.Ordered) → P s → P { s with intake := i }
  enterResync  : ∀ s, s.intake.state = .locked → P s → P s.enterResync
  enterSearch  : ∀ s, s.intake.state = .resync → P s → P s.enterSearch
  -- slots
  trySwap      : ∀ s, P s → P s.trySwap
  fixEcho      : ∀ s x, P s → P (s.fixEcho x)
  slotSwitches : ∀ s, s.link.state = .run → P s → P s.slotSwitches
  slotFinish   : ∀ s n l, s.link.state = .run → P s → P (s.slotFinish n l)
  slotIdle     : ∀ s n l, s.link.state ≠ .run → P s → P (s.slotIdle n l)
  -- requests
  reply        : ∀ s m, s.host.outQueue.length < 8 → P s → P (s.queueReply m)
  setValue     : ∀ s id v, P s → P (s.setValue id v).2
  writeShadow  : ∀ s i r, P s → P (s.writeShadow i r)
  acceptSwap   : ∀ s, s.link.state = .run → P s → P { s with table := { s.table with pendingSwap := some 0 } }
  installSwap  : ∀ s, s.link.state ≠ .run → validate s.table.shadow s.settings.attenMax = none → P s →
    P s.installSwap
  startLink    : ∀ s, s.link.state = .config → P s → P s.startLink
  stopLink     : ∀ s, s.link.state ≠ .config → P s → P s.stopLink
  setForce     : ∀ s m, P s → P { s with decision := s.decision.setForce m }
  addPilot     : ∀ s, P s → P s.addPilot
  readFades    : ∀ s n, P s → P { s with fade := { s.fade with log := s.fade.log.drop n } }
  -- events
  dropSwap     : ∀ s, P s → P s.dropSwap
  expireAnswer : ∀ s, s.hop.lane.state = .asking → P s → P s.expireAnswerTimer
  missSwitch   : ∀ s, s.hop.lane.state = .switching → P s → P s.missSwitch
  endBackoff   : ∀ s, s.hop.lane.state = .backoff → P s → P s.endBackoff
  expireAcq    : ∀ s, s.link.acqTimer.isSome → P s → P s.expireAcqTimer
  acqTimer     : ∀ s n, s.link.acqTimer.isSome → P s → P { s with link := { s.link with acqTimer := some n } }
  expirePilot  : ∀ s, P s → P s.expirePilotTimer
  endSecond    : ∀ s, P s → P s.endSecond
  millis       : ∀ s n, P s → P { s with monitor := { s.monitor with millis := n } }
  -- resets
  holdReset    : ∀ s, s.Running → P s → P s.holdReset
  restartNow   : ∀ s, s.Running → P s → P s.restartNow
  powerOn      : ∀ s l n, P s → P { s.resetBlocks .powerOn (.start 0 []) n with resetLine := l }
  release      : ∀ s c n l, s.resetLine.asserted = true → P s →
    P { s.resetBlocks c s.monitor.release n with resetLine := l }

namespace StepLaw

variable {P : State → Prop}

theorem host (h : StepLaw P) (s : State) (x : HostLink) (hx : HostMove s.host x) (hs : P s) :
    P { s with host := x } :=
  h.outer s s.freeCount x hx hs

theorem deliver (h : StepLaw P) (m : Metrics) (hm : m.InRange) (resumed valid : Bool) (s : State) (hs : P s) :
    P (s.deliver m resumed valid) :=
  h.toEntryLaw.deliver m resumed valid (fun _ hx => Option.some.inj hx ▸ hm) s hs

theorem deliverHeld (h : StepLaw P) (k : Nat) (s : State) (first : FrameNo) (hs : P s) :
    P (s.deliverHeld first k) :=
  h.toEntryLaw.deliverHeld (fun _ _ hx => by cases hx) k s first hs

theorem handleHeld (h : StepLaw P) (s : State) (n : FrameNo) (hs : P s) : P (s.handleEntry (heldFrame n)) :=
  h.toEntryLaw.handleEntry (fun _ hx => by cases hx) s hs

/-! ### The modem link -/

theorem loadSilence (h : StepLaw P) (s : State) (hi : s.intake.state ≠ .idle) (hs : P s) : P s.loadSilence :=
  h.intake s _ rfl (fun hc => absurd hc hi) id hs

theorem searchRecord (h : StepLaw P) (s : State) (good : Bool) (m : Metrics) (hm : m.InRange)
    (hi : s.intake.state = .search) (hs : P s) : P (s.searchRecord good m) := by
  have hn : s.intake.state ≠ .idle := by simp [hi]
  unfold State.searchRecord State.lock
  split
  · split
    · exact h.deliver m hm _ _ _ (h.lock s _ hn rfl id hs)
    · exact h.intake s _ rfl (fun hc => absurd hc hn) id hs
  · exact h.intake s _ rfl (fun hc => absurd hc hn) id hs

theorem lockedGood (h : StepLaw P) (s : State) (m : Metrics) (hm : m.InRange)
    (hi : s.intake.state = .locked) (hs : P s) : P (s.lockedGood m) := by
  have hn : s.intake.state ≠ .idle := by simp [hi]
  have h1 : ∀ i : Intake, i.state = s.intake.state → (s.intake.Ordered → i.Ordered) → P { s with intake := i } :=
    fun i e ho => h.intake s i e (fun hc => absurd hc hn) ho hs
  unfold State.lockedGood
  dsimp only
  split
  · exact h.deliver m hm _ _ _ (h.deliverHeld _ _ _ (h1 _ rfl id))
  · split
    · exact h1 _ rfl id
    · exact h.enterResync _ hi (h1 _ rfl id)

theorem lockedBad (h : StepLaw P) (s : State) (hi : s.intake.state = .locked) (hs : P s) : P s.lockedBad := by
  have hn : s.intake.state ≠ .idle := by simp [hi]
  unfold State.lockedBad
  split
  · exact h.handleHeld _ _ (h.intake s _ rfl (fun hc => absurd hc hn) id hs)
  · exact h.enterResync s hi hs

theorem resyncRecord (h : StepLaw P) (s : State) (good : Bool) (m : Metrics) (hm : m.InRange)
    (hi : s.intake.state = .resync) (hs : P s) : P (s.resyncRecord good m) := by
  have hn : s.intake.state ≠ .idle := by simp [hi]
  have h1 : ∀ i : Intake, i.state = s.intake.state → (s.intake.Ordered → i.Ordered) → P { s with intake := i } :=
    fun i e ho => h.intake s i e (fun hc => absurd hc hn) ho hs
  have hst : (s.intake.resyncRun good m.frame).state = s.intake.state := by
    unfold Intake.resyncRun; split <;> rfl
  have hord : s.intake.Ordered → (s.intake.resyncRun good m.frame).Ordered := by
    unfold Intake.resyncRun; split <;> exact id
  unfold State.resyncRecord State.lock
  dsimp only
  split
  · exact h.deliver m hm _ _ _
      (h.lock { s with intake := { s.intake.resyncRun good m.frame with resyncCount := _ } } _
        (ne_of_eq_of_ne (hst.trans hi) (by decide)) rfl id (h1 _ hst hord))
  · split
    · exact h.enterSearch { s with intake := { s.intake.resyncRun good m.frame with resyncCount := _ } }
        (hst.trans hi) (h1 _ hst hord)
    · exact h1 _ hst hord

theorem takeMetrics (h : StepLaw P) (s : State) (bs : List Byte) (hs : P s) : P (s.takeMetrics bs) := by
  have hm := parseMetrics_inRange bs
  unfold State.takeMetrics
  dsimp only
  split
  case h_1 => exact hs
  case h_2 hi => exact h.searchRecord _ _ _ hm hi (h.loadSilence s (by simp [hi]) hs)
  case h_3 hi =>
    split
    · exact h.lockedGood _ _ hm hi (h.loadSilence s (by simp [hi]) hs)
    · exact h.lockedBad _ hi (h.loadSilence s (by simp [hi]) hs)
  case h_4 hi => exact h.resyncRecord _ _ _ hm hi (h.loadSilence s (by simp [hi]) hs)

theorem expireSilence (h : StepLaw P) (s : State) (hs : P s) : P s.expireSilence := by
  unfold State.expireSilence
  split
  case h_1 => exact hs
  case h_2 hi => exact h.intake s _ rfl (fun hc => by simp [hi] at hc) id hs
  case h_3 hi =>
    refine h.intake s.enterResync _ rfl (fun hc => ?_) id (h.enterResync s hi hs)
    cases hc
  case h_4 hi =>
    exact h.enterSearch _ hi (h.intake s _ rfl (fun hc => by simp [hi] at hc) id hs)

/-! ### Slots -/

theorem trySwapAt (h : StepLaw P) (place here : SwapPlace) (s : State) (hs : P s) :
    P (s.trySwapAt place here) := by
  unfold State.trySwapAt; split <;> [exact h.trySwap s hs; exact hs]

theorem reportInSlot (h : StepLaw P) (point : SlotPoint) (s : State) (hs : P s) : P (s.reportInSlot point) := by
  unfold State.reportInSlot; split <;> [exact h.assembleReports s hs; exact hs]

theorem slotEvent (h : StepLaw P) (s : State) (x : SlotRecord) (l : Bool) (hs : P s) :
    P (s.slotEvent x l) := by
  have h1 : P (((s.countFree).trySwapAt s.swapPlace .before).fixEcho x) :=
    h.fixEcho _ _ (h.trySwapAt _ _ _ (h.outer s _ s.host (.refl _) hs))
  unfold State.slotEvent
  dsimp only
  refine h.trySwapAt _ _ _ ?_
  split
  case isTrue hr =>
    have h2 := h.trySwapAt s.swapPlace .middle _ (h.reportInSlot .switched _ (h.slotSwitches _ hr h1))
    exact h.reportInSlot _ _ (h.slotFinish _ _ _ (by simp_all) (h.reportInSlot .attempted _ h2))
  case isFalse hr => exact h.slotIdle _ _ _ (by simp_all) (h.trySwapAt _ _ _ h1)

theorem takeSlot (h : StepLaw P) (s : State) (bs : List Byte) (l : Bool) (hs : P s) : P (s.takeSlot bs l) := by
  unfold State.takeSlot
  split
  · exact h.slotEvent s _ l hs
  · exact h.intake s _ rfl (fun _ => rfl) (fun _ _ => by simp [*]) hs
  · exact hs

theorem finishDescriptor (h : StepLaw P) (s : State) (l : Bool) (hs : P s) : P (s.finishDescriptor l) := by
  unfold State.finishDescriptor
  split
  · exact hs
  · dsimp only
    have h1 : P { s with intake := { s.intake with sending := none, waiting := none } } :=
      h.intake s _ rfl (fun _ => rfl) (fun _ hw => by simp at hw) hs
    split
    · exact h1
    · exact h.slotEvent _ _ l h1

/-! ### Host requests -/

theorem answer (h : StepLaw P) (s : State) (m : Message) (f : State → Served)
    (hf : ∀ t, HostMove t.host (f t).state.host ∧ (P t → P (f t).state)) (hr : s.canTake = true)
    (hs : P s) : P (s.answer m f) := by
  refine h.reply _ _ ((hf s.dropRequest).1.room ?_) ((hf _).2 (h.host s _ (.taken _) hs))
  have h1 : 1 ≤ s.host.freePlaces := by simp_all [State.canTake]
  unfold HostLink.freePlaces Config.outQueueCapacity at h1
  show s.host.outQueue.length < 8
  omega

theorem take (h : StepLaw P) (s : State) (kind : Byte) (len : Nat) (f : List Byte → State → Served)
    (hf : ∀ p t, HostMove t.host (f p t).state.host ∧ (P t → P (f p t).state)) (hs : P s) :
    P (s.take kind len f) := by
  unfold State.take
  split
  · exact hs
  · split
    · refine h.answer s _ _ (fun t => ?_) (And.left ‹_›) hs
      split <;> [exact hf _ t; exact ⟨.refl _, id⟩]
    · exact hs

theorem unlessHeld (s : State) (f : State → State) (hf : s.Running → P (f s)) (hs : P s) :
    P (s.unlessHeld f) := by
  unfold State.unlessHeld
  split <;> [exact hs; exact hf (by simp_all [State.Running])]

/-- What a request that changes nothing keeps. -/
theorem reads (s : State) : HostMove s.host s.host ∧ (P s → P s) := ⟨.refl _, id⟩

theorem serveWriteProfile (h : StepLaw P) (p : List Byte) (s : State) :
    HostMove s.host (Machine.serveWriteProfile p s).state.host ∧ (P s → P (Machine.serveWriteProfile p s).state) := by
  unfold Machine.serveWriteProfile
  split
  · split <;> [exact reads s; (split <;> [exact reads s;
      (split <;> [exact reads s; exact ⟨.refl _, h.writeShadow s _ _⟩])])]
  · exact reads s

theorem serveSwapTable (h : StepLaw P) (s : State) :
    HostMove s.host (Machine.serveSwapTable s).state.host ∧ (P s → P (Machine.serveSwapTable s).state) := by
  unfold Machine.serveSwapTable
  split
  · exact reads s
  · split
    case isTrue hr =>
      split <;> [exact reads s; (split <;> [exact reads s; exact ⟨.refl _, h.acceptSwap s hr⟩])]
    case isFalse hr => split <;> [exact reads s; exact ⟨.refl _, h.installSwap s hr ‹_›⟩]

theorem serveLinkStop (h : StepLaw P) (s : State) :
    HostMove s.host (Machine.serveLinkStop s).state.host ∧ (P s → P (Machine.serveLinkStop s).state) := by
  unfold Machine.serveLinkStop
  split
  · exact reads s
  · refine ⟨?_, h.stopLink s ‹_›⟩
    show HostMove s.host s.stopLink.host
    unfold State.stopLink
    split
    · unfold State.fadeLinkEvent
      exact .trans (.raiseIf { s with fade := _ } _ _) (.raiseIf _ _ _)
    · exact .refl _

theorem serveForce (h : StepLaw P) (p : List Byte) (s : State) :
    HostMove s.host (Machine.serveForce p s).state.host ∧ (P s → P (Machine.serveForce p s).state) := by
  unfold Machine.serveForce
  split <;> [exact reads s; (split <;> [exact ⟨.refl _, h.setForce s _⟩; exact reads s])]

theorem serveSetSetting (h : StepLaw P) (p : List Byte) (s : State) :
    HostMove s.host (Machine.serveSetSetting p s).state.host ∧ (P s → P (Machine.serveSetSetting p s).state) := by
  refine ⟨?_, h.setValue s _ _⟩
  have key : ∀ id v, (s.setValue id v).2.host = s.host := by
    intro id v
    unfold State.setValue
    dsimp only
    split <;> [rfl; (split <;> rfl); (split <;> rfl)]
  show HostMove s.host (s.setValue _ _).2.host
  rw [key]
  exact .refl _

theorem assembleReport (h : StepLaw P) (s : State) (t : WatchTrigger) (hs : P s) : P (s.assembleReport t) :=
  h.host s _ (.assembleReport s t) hs

theorem receiveAll (h : StepLaw P) (bs : List Byte) : ∀ s, P s → P (s.receiveAll bs) := by
  induction bs with
  | nil => exact fun _ hs => hs
  | cons b bs ih =>
    refine fun s hs => ih _ ?_
    have h1 := h.host s _ (.receiver s.host (receiveByte s.host.collecting b).collecting 0) hs
    unfold State.receive State.complete
    dsimp only
    split
    · split <;> [exact h.host { s with host := { s.host with collecting := _, quiet := 0 } } _ (.accept _ _ ‹_›) h1;
        exact h.raise _ _ h1]
    · exact h1

/-! ### Every command, every millisecond, every step -/

/-- What each operation keeps, every command keeps. -/
theorem exec (h : StepLaw P) (c : Instr) (s t : State) (hs : P s) (he : Machine.exec c s = .next t) : P t := by
  have key : ∀ u, Machine.exec c s = .next u → P u := by
    intro u hu
    cases c <;>
      simp only [Machine.exec, execPowerOn, execResetLineAssert, execResetLineRelease, execHostMessage,
        execInterByteTimeout, execMessageSent, execUnknownKind, execGetInfo, execSetSetting, execGetSetting,
        execWriteProfile, execReadProfile, execSwapTable, execLinkStart, execLinkStop, execForce,
        execPilotNow, execReadStatus, execReadHistory, execReadFades, execReadBin, execEventEnable,
        execClearEvents, execReadEvents, execWatch, execRestart, execRestartTakesEffect, execWatchReport,
        execRxMetrics, execUnknownRecord, execSwapTimeout, execAnswerTimerExpiry, execSwitchMissed,
        execBackoffExpiry, execSilenceTimerExpiry, execAcqTimeout, execTxSlot, execDescriptorSent,
        execPilotTimerExpiry, execSecondEnd, Host.Outcome.next.injEq] at hu <;> subst hu
    case powerOn =>
      split <;> [exact h.powerOn s _ _ hs; exact h.host _ _ (.started _ _) (h.powerOn s _ _ hs)]
    case resetLineAssert => exact unlessHeld s _ (fun hr => h.holdReset s hr hs) hs
    case resetLineRelease =>
      split <;> [exact h.host _ _ (.started _ _) (h.release s _ _ _ ‹_› hs); exact hs]
    case hostMessage bs => exact unlessHeld s _ (fun _ => h.receiveAll bs s hs) hs
    case interByteTimeout => exact unlessHeld s _ (fun _ => h.host s _ (.receiver _ _ _) hs) hs
    case messageSent =>
      refine unlessHeld s _ (fun hr => ?_) hs
      split <;> [exact h.restartNow s hr hs; exact h.host s _ (.sent _) hs]
    case unknownKind =>
      refine unlessHeld s _ (fun _ => ?_) hs
      split <;> [exact hs; (split <;> [exact h.answer s _ _ reads (And.left ‹_›) hs; exact hs])]
    case getInfo => exact unlessHeld s _ (fun _ => h.take s _ _ _ (fun _ => reads) hs) hs
    case setSetting => exact unlessHeld s _ (fun _ => h.take s _ _ _ h.serveSetSetting hs) hs
    case getSetting =>
      refine unlessHeld s _ (fun _ => h.take s _ _ _ (fun p t => ?_) hs) hs
      unfold serveGetSetting; split <;> exact reads t
    case writeProfile => exact unlessHeld s _ (fun _ => h.take s _ _ _ h.serveWriteProfile hs) hs
    case readProfile =>
      refine unlessHeld s _ (fun _ => h.take s _ _ _ (fun p t => ?_) hs) hs
      unfold serveReadProfile; split <;> exact reads t
    case swapTable => exact unlessHeld s _ (fun _ => h.take s _ _ _ (fun _ => h.serveSwapTable) hs) hs
    case linkStart =>
      refine unlessHeld s _ (fun _ => h.take s _ _ _ (fun p t => ?_) hs) hs
      unfold serveLinkStart; split <;> [exact ⟨.refl _, h.startLink t ‹_›⟩; exact reads t]
    case linkStop => exact unlessHeld s _ (fun _ => h.take s _ _ _ (fun _ => h.serveLinkStop) hs) hs
    case force => exact unlessHeld s _ (fun _ => h.take s _ _ _ h.serveForce hs) hs
    case pilotNow =>
      refine unlessHeld s _ (fun _ => h.take s _ _ _ (fun p t => ?_) hs) hs
      unfold servePilotNow
      split <;> [exact ⟨.raiseIf { t with tx := _ } _ _, h.addPilot t⟩; exact reads t]
    case readStatus =>
      refine unlessHeld s _ (fun _ => h.take s _ _ _ (fun p t => ?_) hs) hs
      unfold serveReadStatus; dsimp only; split <;> exact reads t
    case readHistory =>
      refine unlessHeld s _ (fun _ => h.take s _ _ _ (fun p t => ?_) hs) hs
      unfold serveReadHistory; dsimp only; split <;> exact reads t
    case readFades =>
      refine unlessHeld s _ (fun _ => h.take s _ _ _ (fun p t => ?_) hs) hs
      unfold serveReadFades; dsimp only; split <;> [exact reads t; exact ⟨.refl _, h.readFades t _⟩]
    case readBin =>
      refine unlessHeld s _ (fun _ => h.take s _ _ _ (fun p t => ?_) hs) hs
      unfold serveReadBin; dsimp only; split <;> exact reads t
    case eventEnable =>
      exact unlessHeld s _ (fun _ => h.take s _ _ _
        (fun _ t => ⟨.flags _ _ _, h.host t _ (.flags _ _ _)⟩) hs) hs
    case clearEvents =>
      exact unlessHeld s _ (fun _ => h.take s _ _ _
        (fun _ t => ⟨.flags _ _ _, h.host t _ (.flags _ _ _)⟩) hs) hs
    case readEvents => exact unlessHeld s _ (fun _ => h.take s _ _ _ (fun _ => reads) hs) hs
    case watch =>
      refine unlessHeld s _ (fun _ => h.take s _ _ _ (fun p t => ?_) hs) hs
      unfold serveWatch; dsimp only
      split <;> [exact reads t; (split <;> [exact reads t; exact ⟨.watch _ _, h.host t _ (.watch _ _)⟩])]
    case restart =>
      exact unlessHeld s _ (fun _ => h.take s _ _ _
        (fun _ t => ⟨.restarting _ _, h.host t _ (.restarting _ _)⟩) hs) hs
    case restartTakesEffect =>
      refine unlessHeld s _ (fun hr => ?_) hs
      split <;> [exact h.restartNow s hr hs; exact hs]
    case watchReport =>
      refine unlessHeld s _ (fun _ => ?_) hs
      split <;> [exact hs; exact h.assembleReport s _ hs]
    case rxMetrics => exact unlessHeld s _ (fun _ => h.takeMetrics s _ hs) hs
    case unknownRecord => exact hs
    case swapTimeout =>
      refine unlessHeld s _ (fun _ => ?_) hs
      split <;> [exact h.dropSwap s hs; exact hs]
    case answerTimerExpiry =>
      refine unlessHeld s _ (fun _ => ?_) hs
      split <;> [exact h.expireAnswer s ‹_› hs; exact hs]
    case switchMissed =>
      refine unlessHeld s _ (fun _ => ?_) hs
      split <;> [exact h.missSwitch s ‹_› hs; exact hs]
    case backoffExpiry =>
      refine unlessHeld s _ (fun _ => ?_) hs
      split <;> [exact h.endBackoff s ‹_› hs; exact hs]
    case silenceTimerExpiry =>
      refine unlessHeld s _ (fun _ => ?_) hs
      split <;> [exact h.expireSilence s hs; exact hs]
    case acqTimeout =>
      refine unlessHeld s _ (fun _ => ?_) hs
      split
      case isTrue hc => exact h.expireAcq s hc.1 hs
      case isFalse => exact hs
    case txSlot => exact unlessHeld s _ (fun _ => h.takeSlot s _ _ hs) hs
    case descriptorSent => exact unlessHeld s _ (fun _ => h.finishDescriptor s _ hs) hs
    case pilotTimerExpiry =>
      refine unlessHeld s _ (fun _ => ?_) hs
      split <;> [exact h.expirePilot s hs; exact hs]
    case secondEnd => exact unlessHeld s _ (fun _ => h.endSecond s hs) hs
  exact key t he

theorem tickAcq (h : StepLaw P) (s : State) (hs : P s) : P s.tickAcq := by
  unfold State.tickAcq
  split
  · exact hs
  · have hc : s.link.acqTimer.isSome := by simp [*]
    split <;> [exact h.expireAcq s hc hs; exact h.acqTimer s _ hc hs]

theorem tickSilence (h : StepLaw P) (s : State) (hs : P s) : P s.tickSilence := by
  unfold State.tickSilence
  split
  · exact hs
  · split <;> [exact h.expireSilence s hs; exact h.silence s _ (by simp [*]) hs]

theorem tick (h : StepLaw P) (s : State) (hs : P s) : P s.tick := by
  refine unlessHeld s _ (fun _ => ?_) hs
  have h1 := h.tickSilence _ (h.tickAcq s hs)
  have h2 : P s.tickAcq.tickSilence.tickReceiver := by
    unfold State.tickReceiver
    split <;> [exact h1; (split <;> exact h.host _ _ (.receiver _ _ _) h1)]
  unfold State.tickSecond
  split <;> [exact h.endSecond _ h2; exact h.millis _ _ h2]

/-- What each operation keeps, every step keeps. -/
theorem step (h : StepLaw P) (s t : State) (hs : P s) (he : Machine.step s = .next t) : P t := by
  unfold Machine.step at he
  split at he
  · cases he; exact h.tick s hs
  · exact h.exec _ _ _ (h.commands s _ hs) he

end StepLaw

end Sys2Proof.Machine
end

