-- ==== Sys2Proof/WellFormed.lean ====
section
/-! DEFINITION. Which terms of `Instr` are commands the outside can give. Only two operands can be wrong: an
UNKNOWN_RECORD must have a first byte, and that byte must be neither record code (R150); a HOST_MESSAGE
must carry a byte. -/

namespace Sys2Proof

/-- The codes of the two records the modem sends (R150). -/
def isRecordCode (b : Byte) : Bool := b == 0xD1#8 || b == 0xD2#8

/-- The operands of a command are ones the outside can give. -/
def Instr.wellFormed : Instr → Bool
  | .unknownRecord [] => false
  | .unknownRecord (b :: _) => !isRecordCode b
  | .hostMessage [] => false
  | .hostMessage (_ :: _) => true
  | .powerOn _ _ _ | .resetLineAssert | .resetLineRelease _ _ | .interByteTimeout | .messageSent
  | .unknownKind | .getInfo | .setSetting | .getSetting | .writeProfile | .readProfile | .swapTable
  | .linkStart | .linkStop | .force | .pilotNow | .readStatus | .readHistory | .readFades | .readBin
  | .eventEnable | .clearEvents | .readEvents | .watch | .restart | .restartTakesEffect | .watchReport
  | .rxMetrics _ | .swapTimeout | .answerTimerExpiry | .switchMissed | .backoffExpiry
  | .silenceTimerExpiry | .acqTimeout | .txSlot _ _ | .descriptorSent _ | .pilotTimerExpiry
  | .secondEnd => true

end Sys2Proof
end

