-- ==== Sys2Proof/Tests/Slice0.lean ====
section
/-! SUPPORT. Tests: ill-formed commands are refused; the manual's worked cases; and for each statement with
hypotheses a state and operands that meet them, one witness for each clause, at the ends of its ranges. -/

namespace Sys2Proof.Tests

open Sys2Proof Sys2Proof.Machine

/-! ## Well-formed commands -/

theorem test_unknownRecord_needs_a_byte : (Instr.unknownRecord []).wellFormed = false := by decide

theorem test_unknownRecord_is_no_known_record :
    (Instr.unknownRecord [0xD1#8, 0#8]).wellFormed = false ∧ (Instr.unknownRecord [0xD2#8]).wellFormed = false ∧
    (Instr.unknownRecord [0xD3#8, 0#8]).wellFormed = true := by decide

theorem test_hostMessage_needs_a_byte :
    (Instr.hostMessage []).wellFormed = false ∧ (Instr.hostMessage [0#8]).wellFormed = true := by decide

/-! ## The manual's worked cases -/

/-- The check value of R150 and R172: the CRC of the nine characters 1 to 9. -/
theorem test_crc16 : crc16 ([0x31, 0x32, 0x33, 0x34, 0x35, 0x36, 0x37, 0x38, 0x39].map (BitVec.ofNat 8)) = 0x29B1#16 := by
  decide +kernel

/-- A row of the worked table (00_scope), with the fields the cases below read. -/
def row (capacity tDown tUp backoff : Nat) : ProfileRow :=
  { enabled := true, modulation := .qpsk, codeRate := .half, capacity := capacity, tDown := tDown, tUp := tUp,
    backoff := backoff }

/-- The worked table of 00_scope, with row 11 as given. -/
def worked (row11 : ProfileRow) : Table :=
  #v[row 10 40 70 0, row 15 70 100 0, row 27 110 140 1, row 33 130 160 1, row 45 170 200 2, row 58 195 225 3,
     row 67 220 250 4, row 75 250 280 5, row 83 280 310 6, row 92 310 340 7, row 100 340 370 8, row11, .zero, .zero,
     .zero, .zero]

/-- Section 1.3, the rejected table. -/
theorem test_validation :
    validate (worked (row 110 335 380 9)) 31 = some (11, .order) ∧
    validate (worked (row 110 350 380 9)) 31 = none ∧
    validate (worked (row 110 350 380 9)) 8 = some (11, .backoffLimit) := by decide +kernel

/-- Section 2.5: one branch of the record. -/
def branch (snr stress pilotSnr : Nat) : Branch := { snr := snr, rsl := -90, stress := stress, pilotSnr := pilotSnr }

/-- Section 2.5: the record of the worked case. -/
def metrics : Metrics :=
  { frame := 0#16, mainValid := true, spaceValid := true, headerValid := true, pilot := false, uncorrectable := false,
    rxProfile := 6, main := branch 231 40 0, space := branch 214 0 0, hcw := Hcw.decode 0#32 }

/-- Section 2.5: combined 255, E 250, S16 4200, P 206. -/
theorem test_estimator_case :
    (combine .combine metrics 3 (-2)).snr = 255 ∧ effectiveSnr (combine .combine metrics 3 (-2)) 8 = 250 ∧
    smoothStep (some 4400) 250 1 4 = 4200 ∧ predict 262 (-28) 16 = 206 := by decide +kernel

/-- Section 2.7: the calibration from one pilot. -/
theorem test_calibration :
    calibrate true (branch 231 40 238) 3 = 7 ∧ calibrate true (branch 214 0 205) (-2) = -7 := by decide +kernel

/-- Section 4.4: the downshift target from r = 6. -/
theorem test_downshift_target :
    let i (p : Nat) : DecisionInput :=
      { s := 300, p := p, uncorrectable := false, starved := false, fade := false, r := 6, negotiated := 0x07FF#16,
        table := worked .zero, set := .default }
    (i 183).downshiftTarget = 4 ∧ (i 35).downshiftTarget = 0 := by decide +kernel

/-- Section 5.8, the sequence skip: at entry 8 the next number is shown by the far view, so 4 is taken. -/
theorem test_sequence_skip : newSeq 3#3 3#3 = 4#3 ∧ newSeq 7#3 3#3 = 0#3 ∧ newSeq 2#3 3#3 = 4#3 := by decide

/-- A link in RUN with the worked table, nothing queued for the host, and the intake LOCKED. -/
def live : State :=
  { State.reset with
    table := { State.reset.table with
      active := worked .zero, shadow := worked .zero, ownMask := 0x07FF#16, farHalf0 := 0xFF#8, mark0 := true,
      farHalf1 := 0x07#8, mark1 := true, negotiated := 0x07FF#16 }
    est := { State.reset.est with ring := [
      { frame := 99#16, e := 250, s := 262, p := 206, d := -28, rsl := -90, rxProfile := some 6, held := false,
        resumed := true, pilot := false, mainValid := true, spaceValid := true, uncorrectable := false,
        inFade := false, headerValid := true }] }
    hop := { State.reset.hop with r := 6 }
    tx := { State.reset.tx with active := 6 }
    power := { State.reset.power with a := 12 }
    link := { State.reset.link with state := .run }
    intake := { State.reset.intake with state := .locked, expected := 100#16, silence := some 20 }
    host := { State.reset.host with outQueue := [] } }

/-- Section 6.3, a staged downshift overtaken by a drop: the active profile becomes 7, and the answer AGREE 2, 0. -/
theorem test_unilateral_drop :
    let s := { live with
      tx := { live.tx with active := 9, staged := some { profile := 7, countdown := 3, seq := 2#3 } }
      hop := { live.hop with answer := { lastTaken := some 2#3, kind := .agree, seq := 2#3, value := 3#4 } } }
    let t := s.dropActive 0x04FF#16
    t.tx.active = 7 ∧ t.tx.staged = none ∧ t.hop.answer.kind = .agree ∧ t.hop.answer.value = 0#4 ∧
      t.hasFlag .txSwitch = true := by decide +kernel

/-- A far power request in a good header. -/
def asks (r : PowerRequest) (fade : Bool) : Option Metrics :=
  some { metrics with hcw := { metrics.hcw with powerReq := r, fade := fade } }

/-- The live link with the attenuation and the rate-limit counter given, in mode AUTO. -/
def powered (a count : Nat) : State := { live with power := { live.power with a := a, rateCount := count } }

/-- Where the last slot in RUN took atpc_mode as it is set, an entry reads that mode, whatever the free value. -/
theorem entryMode_settled {s : State} (h : s.power.slotMode = s.settings.atpcMode) :
    s.entryMode = s.settings.atpcMode := by simp [State.entryMode, h]

/-- Section 7.4, rows e10 and e12: the fade waiver, and the clamp to the floor of profile 6. -/
theorem test_power_waiver :
    ((powered 10 8).powerTransmit (asks .fastUp true)).power.a = 7 ∧
    ((powered 4 8).powerTransmit (asks .fastUp true)).power.rateCount = 7 ∧
    ((powered 11 8).powerTransmit (asks .up false)).power.a = 11 := by
  refine ⟨?_, ?_, ?_⟩ <;>
    (rw [State.powerTransmit, entryMode_settled (by decide +kernel)]; decide +kernel)

/-- A state with a swap pending. -/
def swapping (n : Nat) : State := { live with table := { live.table with pendingSwap := some n } }

/-- The state with the request lane in the state given. -/
def laneTo (st : LaneState) (s : State) : State :=
  { s with hop := { s.hop with lane := { s.hop.lane with state := st } } }

/-- R9: a swap that would be taken at the next entry is left; one held up by the request lane is dropped at the count
of 256, and not before. -/
theorem test_swap_timeout :
    exec .swapTimeout (swapping 255) = .next (swapping 255) ∧
    exec .swapTimeout (laneTo .asking (swapping 254)) = .next (laneTo .asking (swapping 254)) ∧
    ∃ t, exec .swapTimeout (laneTo .asking (swapping 255)) = .next t ∧ t.table.pendingSwap = none ∧
      t.hasFlag .swapTimeout = true := by
  have key (s : State) (b : Bool) (hr : s.resetLine.asserted = false) (hb : s.swapExpires = b) :
      exec .swapTimeout s = .next (if b then s.dropSwap else s) := by
    show Host.Outcome.next (if s.resetLine.asserted then s else if s.swapExpires then s.dropSwap else s) = _
    rw [hr, hb]; rfl
  exact ⟨key _ false rfl (by decide +kernel), key _ false rfl (by decide +kernel), _,
    key _ true rfl (by decide +kernel), rfl, by decide +kernel⟩

/-! ## Witnesses: the queue, power and the RESET line -/

/-- A controller held by the RESET line. -/
def heldState : State := { live with resetLine := { asserted := true, coldStart := true } }

theorem witness_IdleStepIsOneMillisecond :
    (heldState.pending = [] ∧ heldState.resetLine.asserted = true) ∧
    ∃ s : State, s.pending = [] ∧ s.Running ∧ s.link.acqTimer = some 2 ∧ s.intake.silence = some 2 ∧
      s.host.collecting = some [] ∧ s.host.quiet = 9 ∧ s.monitor.millis = 998 :=
  ⟨⟨rfl, rfl⟩, { live with
    link := { live.link with acqTimer := some 2 }
    intake := { live.intake with silence := some 2 }
    host := { live.host with collecting := some [], quiet := 9 }
    monitor := { live.monitor with millis := 998 } }, rfl, rfl, rfl, rfl, rfl, rfl, rfl⟩

theorem witness_CommandsLeaveQueueAlone :
    ∃ t, exec .secondEnd { live with pending := [.getInfo] } = .next t ∧ t.pending = [.getInfo] :=
  ⟨_, rfl, rfl⟩

theorem witness_HeldControllerTakesNothing :
    heldState.resetLine.asserted = true ∧ (∀ a b d, Instr.secondEnd ≠ .powerOn a b d) ∧
    (∀ a b, Instr.secondEnd ≠ .resetLineRelease a b) := ⟨rfl, by simp, by simp⟩

/-- A bin of which 899 seconds are committed. -/
def fullBin (n : Nat) : Bin := { Bin.fresh n with seconds := 899 }

/-- A monitor with two open bins, a second of each waiting. -/
def twoBins : Monitor :=
  { Monitor.start 5 [] with
    earlier := some (fullBin 4), secondIndex := 1
    window := [{ cls := .ok, bin := 4 }, { cls := .es, bin := 5 }] }

theorem twoBins_lawful : twoBins.Lawful where
  closed := by rintro b ⟨⟩
  ring := by decide
  current := ⟨by decide, by decide, by decide⟩
  earlier := by rintro b ⟨⟩; exact ⟨⟨by decide, by decide, by decide⟩, by decide, by decide⟩
  waiting := ⟨[{ cls := .ok, bin := 4 }], [{ cls := .es, bin := 5 }], rfl,
    fun x hx => ⟨fullBin 4, rfl, by simp_all [fullBin, Bin.fresh]⟩, by decide,
    by rintro b ⟨⟩; exact ⟨by decide, by decide⟩, by decide⟩
  index := by decide
  window := by decide

/-- A monitor with one open bin and a full ring, 29 seconds of a run waiting. -/
def oneBin : Monitor :=
  { Monitor.start 40 (List.replicate 32 (Bin.fresh 7)) with
    secondIndex := 29, window := List.replicate 29 { cls := .ok, bin := 40 } }

theorem oneBin_lawful : oneBin.Lawful where
  closed := fun b hb => by
    rw [List.eq_of_mem_replicate (show b ∈ List.replicate 32 (Bin.fresh 7) from hb)]
    exact ⟨by decide, by decide, by decide⟩
  ring := by decide
  current := ⟨by decide, by decide, by decide⟩
  earlier := by rintro b ⟨⟩
  waiting := ⟨[], oneBin.window, rfl, by simp, by decide, by rintro b ⟨⟩, by decide⟩
  index := by decide
  window := by decide

theorem witness_ResetLineAssertHolds :
    ({ live with monitor := twoBins }.Running ∧ twoBins.Lawful ∧ twoBins.earlier.isSome) ∧
    ({ live with monitor := oneBin }.Running ∧ oneBin.Lawful ∧ oneBin.earlier = none) :=
  ⟨⟨rfl, twoBins_lawful, rfl⟩, rfl, oneBin_lawful, rfl⟩

theorem witness_ResetLineReleaseStarts :
    heldState.resetLine.asserted = true ∧
    { heldState with resetLine := { asserted := true, coldStart := false } }.resetLine.asserted = true ∧
    live.Running := ⟨rfl, rfl, rfl⟩

/-! ## Witnesses: the host line -/

/-- The state with messages waiting in the input buffer. -/
def waitingFor (s : State) (ms : List Message) : State := { s with host := { s.host with inBuf := ms } }

theorem witness_EnvelopeCompletesMessage :
    let m : Message := { kind := 1#8, tag := 7#8, payload := List.replicate 248 0xB7#8 }
    live.Running ∧ live.host.collecting = none ∧ 0xB7#8 ∉ [0#8, 0xB6#8] ∧ m.payload.length ≤ 248 ∧
    (waitingFor live [m]).host.inBuf.length < 2 ∧ ¬ (waitingFor live [m, m]).host.inBuf.length < 2 :=
  ⟨rfl, rfl, by decide, (List.length_replicate ..).le, by decide, by decide⟩

/-- Two bytes that are not the check `w`. -/
theorem other_check (w : BitVec 16) : ∃ c0 c1 : Byte, [c0, c1] ≠ le16 w := by
  by_cases h : [0#8, 0#8] = le16 w
  · exact ⟨1#8, 0#8, by rw [← h]; decide⟩
  · exact ⟨_, _, h⟩

theorem witness_DamagedMessagesAreDiscarded :
    live.Running ∧ live.host.collecting = none ∧ [0xB6#8] ≠ [] ∧ 0xB7#8 ∉ [0xB6#8] ∧
    (1#8).toNat < 2 ∧ 250 < (251#8).toNat ∧
    (2 ≤ (2#8).toNat ∧ ([] : List Byte).length + 2 = (2#8).toNat) ∧
    ((250#8).toNat ≤ 250 ∧ (List.replicate 248 0#8).length + 2 = (250#8).toNat) ∧
    ∀ (len kind tag : Byte) (payload : List Byte), ∃ c0 c1, [c0, c1] ≠ le16 (crc16 ([len, kind, tag] ++ payload)) :=
  ⟨rfl, rfl, by decide, by decide, by decide, by decide, by decide,
    ⟨by decide, congrArg (· + 2) (List.length_replicate ..)⟩, fun _ _ _ _ => other_check _⟩

/-- The state with messages in the output queue. -/
def sendingOut (s : State) (ms : List Message) : State := { s with host := { s.host with outQueue := ms } }

theorem witness_HostLineEvents :
    live.Running ∧ live.host.restarting = false ∧
    ∃ s : State, s.Running ∧ s.host.restarting = true ∧
      (∀ m, s.host.outQueue.head? = some m → m.kind ≠ 0x93#8 ∨ m.payload ≠ [0#8]) :=
  ⟨rfl, rfl, sendingOut { live with host := { live.host with restarting := true } }
    [{ kind := 0x93#8, tag := 7#8, payload := [3#8] }], rfl, rfl, by rintro m ⟨⟩; exact .inr (by decide)⟩

/-! ## Witnesses: requests -/

/-- A request of the kind and payload given waits, and can be taken. -/
def asked (s : State) (kind : Byte) (payload : List Byte) : State :=
  waitingFor s [{ kind := kind, tag := 7#8, payload := payload }]

theorem asked_ready (s : State) (kind : Byte) (payload : List Byte) (h1 : s.Running)
    (h2 : s.host.outQueue.length < 8) (h3 : s.host.restarting = false) :
    (asked s kind payload).Ready { kind := kind, tag := 7#8, payload := payload } := ⟨h1, rfl, h2, h3⟩

theorem live_ready (kind : Byte) (payload : List Byte) :
    (asked live kind payload).Ready { kind := kind, tag := 7#8, payload := payload } :=
  asked_ready live kind payload rfl (by decide) rfl

/-- A notice to fill the output queue with. -/
def notice : Message := { kind := 0x41#8, tag := 0#8, payload := [] }

theorem witness_RequestsAreChecked :
    (.getInfo, 0x01#8, 0) ∈ requestRows ∧ live.Running ∧ live.host.inBuf = [] ∧
    8 ≤ (sendingOut live (List.replicate 8 notice)).host.outQueue.length ∧
    { live with host := { live.host with restarting := true } }.host.restarting = true ∧
    (∃ m, (asked live 0x02#8 []).host.inBuf.head? = some m ∧ m.kind ≠ 0x01#8) ∧
    ((asked live 0x01#8 [0#8]).Ready { kind := 0x01#8, tag := 7#8, payload := [0#8] } ∧ [0#8].length ≠ 0) ∧
    (sendingOut live (List.replicate 7 notice)).host.outQueue.length < 8 :=
  ⟨by decide, rfl, rfl, by decide, rfl, ⟨_, rfl, by decide⟩, ⟨live_ready _ _, by decide⟩, by decide⟩

theorem witness_UnknownKindIsAnswered : ∀ kind ∈ [0x00#8, 0x14#8, 0xFF#8],
    (asked live kind []).Ready { kind := kind, tag := 7#8, payload := [] } ∧
    ∀ (c : Instr) (k : Byte) (len : Nat), (c, k, len) ∈ requestRows → kind ≠ k := by
  have key : ∀ kind ∈ [0x00#8, 0x14#8, 0xFF#8], ∀ x ∈ requestRows, kind ≠ x.2.1 := by decide
  exact fun kind hk => ⟨live_ready _ _, fun c k len hx => key kind hk _ hx⟩

theorem witness_GetInfoAnswers : (asked live 0x01#8 []).Ready { kind := 0x01#8, tag := 7#8, payload := [] } :=
  live_ready _ _

theorem witness_SetSettingAnswers :
    (∀ id v, (asked live 0x02#8 (id :: le32 v)).Ready { kind := 0x02#8, tag := 7#8, payload := id :: le32 v }) ∧
    (((8#8).toNat, (10 : Int), (400 : Int)) = (8, 10, 400) ∧ live.Admits 8 31 ∧ ¬ live.Admits 8 30) ∧
    nearestValue 23 0 65535 1 = 100 ∧ nearestValue 23 0 65535 99 = 100 ∧ nearestValue 8 10 400 401 = 400 ∧
    (((1#8).toNat, (4 : Int)) = (1, 4) ∧ (0 ≤ (3#32).toInt ∧ (3#32).toInt < 4) ∧ ¬ (4#32).toInt < 4 ∧
      ¬ 0 ≤ (0xFFFFFFFF#32).toInt) ∧
    (0#8).toNat < 1 ∧ 35 < (36#8).toNat :=
  ⟨fun _ _ => live_ready _ _, ⟨rfl, ⟨by decide, by decide, by decide, by decide, by decide⟩,
    fun h => absurd (h.fadeEnter rfl) (by decide)⟩, by decide, by decide, by decide, by decide, by decide, by decide⟩

theorem witness_GetSettingAnswers :
    (∀ id, (asked live 0x03#8 [id]).Ready { kind := 0x03#8, tag := 7#8, payload := [id] }) ∧
    (1 ≤ (1#8).toNat ∧ (35#8).toNat ≤ 35) ∧ ¬ (1 ≤ (0#8).toNat) ∧ ¬ ((36#8).toNat ≤ 35) :=
  ⟨fun _ => live_ready _ _, by decide, by decide, by decide⟩

/-- The payload of a WRITE_PROFILE of 4096QAM 9/10 with the index, the enabled byte and the capacity given, the other
fields at the top of their ranges. -/
def topWrite (i en : Byte) (cap : BitVec 16) : List Byte :=
  [i, en, 9#8, 4#8] ++ le16 cap ++ le16 450#16 ++ le16 450#16 ++ [20#8]

theorem witness_WriteProfileAnswers :
    let s (i en : Byte) (cap : BitVec 16) (swap : Option Nat) : State :=
      asked { live with table := { live.table with pendingSwap := swap } } 0x04#8 (topWrite i en cap)
    let fits (i en : Byte) (cap : BitVec 16) : Bool := !(decide (15 < i.toNat ∨ 9 < (9#8).toNat ∨ 4 < (4#8).toNat ∨
      1023 < cap.toNat ∨ 450 < (450#16).toNat ∨ 450 < (450#16).toNat ∨ 20 < (20#8).toNat ∨
      (en.getLsbD 0 = true ∧ cap = 0#16)))
    (∀ i en cap swap, (s i en cap swap).Ready { kind := 0x04#8, tag := 7#8, payload := topWrite i en cap } ∧
      (s i en cap swap).table.pendingSwap = swap) ∧
    fits 15#8 1#8 1023#16 = true ∧ fits 0#8 0xFF#8 1#16 = true ∧ fits 15#8 0xFE#8 0#16 = true ∧
    fits 16#8 1#8 1023#16 = false ∧ fits 15#8 1#8 1024#16 = false ∧ fits 15#8 0xFF#8 0#16 = false :=
  ⟨fun _ _ _ _ => ⟨asked_ready _ _ _ rfl (by decide : 0 < 8) rfl, rfl⟩, by decide⟩

theorem witness_ReadProfileAnswers :
    (∀ sel i, (asked live 0x05#8 [sel, i]).Ready { kind := 0x05#8, tag := 7#8, payload := [sel, i] }) ∧
    (15#8).toNat = (15 : Profile).val ∧ 1 < (2#8).toNat ∧ 15 < (16#8).toNat :=
  ⟨fun _ _ => live_ready _ _, by decide, by decide, by decide⟩

/-- The state with the link in the state given. -/
def linkIn (st : LinkPhase) (s : State) : State := { s with link := { s.link with state := st } }

/-- The state with the shadow table given. -/
def shadowed (t : Table) (s : State) : State := { s with table := { s.table with shadow := t } }

/-- The worked table is valid, at the lowest atten_max that lets it be. -/
theorem worked_valid : TableValid (worked .zero) 8 :=
  ⟨by decide +kernel, by decide +kernel, by decide +kernel, by decide +kernel⟩

theorem worked_valid31 : TableValid (worked .zero) 31 :=
  ⟨by decide +kernel, by decide +kernel, by decide +kernel, by decide +kernel⟩

/-- Section 1.3, the rejected table: row 11 is the first to fail, and ORDER is its first failure. -/
theorem order_first : FirstFailure (worked (row 110 335 380 9)) 31 11 .order where
  fails := by unfold RowFails; decide +kernel
  first := fun other => by cases other <;> unfold RowFails <;> decide +kernel
  lowest := fun j other => by revert j; cases other <;> unfold RowFails <;> decide +kernel

theorem witness_SwapOutsideRun :
    (∀ s ∈ [linkIn .config live, linkIn .sync (shadowed (worked (row 110 335 380 9)) live), linkIn .caps (swapping 9)],
      (asked s 0x06#8 []).Ready { kind := 0x06#8, tag := 7#8, payload := [] } ∧ s.link.state ≠ .run) ∧
    FirstFailure (worked (row 110 335 380 9)) 31 11 .order ∧ TableValid (worked .zero) 31 ∧
    (swapping 9).table.pendingSwap.isSome ∧ live.table.pendingSwap = none := by
  refine ⟨fun s hs => ?_, order_first, worked_valid31, rfl, rfl⟩
  simp only [List.mem_cons, List.not_mem_nil, or_false] at hs
  rcases hs with rfl | rfl | rfl <;> exact ⟨⟨rfl, rfl, by decide, rfl⟩, by decide⟩

/-- The worked table with row 6 disabled. -/
def without6 : Table := (worked .zero).set 6 .zero

theorem witness_SwapInRun :
    (∀ s ∈ [live, shadowed (worked (row 110 335 380 9)) live, shadowed without6 live, swapping 9],
      (asked s 0x06#8 []).Ready { kind := 0x06#8, tag := 7#8, payload := [] } ∧ s.link.state = .run) ∧
    FirstFailure (worked (row 110 335 380 9)) 31 11 .order ∧
    (TableValid without6 31 ∧ (without6[live.tx.active]).enabled = false) ∧
    ¬ ((live.table.shadow[live.tx.active]).enabled = false ∨ (live.table.shadow[live.hop.r]).enabled = false) := by
  refine ⟨fun s hs => ?_, order_first, ⟨⟨by decide +kernel, by decide +kernel, by decide +kernel, by decide +kernel⟩,
    by decide +kernel⟩, by decide +kernel⟩
  simp only [List.mem_cons, List.not_mem_nil, or_false] at hs
  rcases hs with rfl | rfl | rfl | rfl <;> exact ⟨⟨rfl, rfl, by decide, rfl⟩, by decide⟩

theorem witness_PendingSwapAtEntry :
    live.table.pendingSwap = none ∧
    ((swapping 0).table.pendingSwap = some 0 ∧ TableValid (swapping 0).table.shadow (swapping 0).settings.attenMax ∧
      ((swapping 0).hop.lane.state = .steady ∧ (swapping 0).tx.staged = none ∧
        ((swapping 0).table.shadow[(swapping 0).tx.active]).enabled = true ∧
        ((swapping 0).table.shadow[(swapping 0).hop.r]).enabled = true)) ∧
    (∀ s ∈ [swapping 0, linkIn .sync (swapping 255), shadowed (worked (row 110 335 380 9)) (swapping 3)],
      s.Running ∧ s.intake.sending = none ∧ s.table.pendingSwap.isSome ∧
        s.table.negotiated.getLsbD s.tx.active.val = true) ∧
    ¬ TableValid (worked (row 110 335 380 9)) 31 ∧
    (∀ n ∈ [254, 255], (swapping n).table.pendingSwap = some n ∧ (swapping n).swapReady = true ∧
      (laneTo .asking (swapping n)).table.pendingSwap = some n ∧ (laneTo .asking (swapping n)).Running ∧
      (laneTo .asking (swapping n)).link.state = .run ∧
      (laneTo .asking (swapping n)).hop.lane.state = .asking) ∧ 254 + 1 < 256 ∧ 256 ≤ 255 + 1 := by
  refine ⟨rfl, ⟨rfl, worked_valid31, rfl, rfl, by decide +kernel, by decide +kernel⟩, fun s hs => ?_, fun h => ?_,
    fun n hn => ⟨rfl, ?_, rfl, rfl, rfl, rfl⟩, by decide, by decide⟩
  · simp only [List.mem_cons, List.not_mem_nil, or_false] at hs
    rcases hs with rfl | rfl | rfl <;> exact ⟨rfl, rfl, rfl, by decide⟩
  · exact absurd (h.order 10 11 (by decide) (by decide +kernel) (by decide +kernel)).1 (by decide +kernel)
  · have key : ∀ n ∈ [254, 255], (swapping n).swapReady = true := by decide +kernel
    exact key n hn

theorem witness_LinkStartAnswers :
    (asked live 0x07#8 []).Ready { kind := 0x07#8, tag := 7#8, payload := [] } ∧ live.link.state ≠ .config ∧
    (asked (linkIn .config live) 0x07#8 []).Ready { kind := 0x07#8, tag := 7#8, payload := [] } :=
  ⟨live_ready _ _, by decide, asked_ready _ _ _ rfl (by decide) rfl⟩

/-- An open fade. -/
def fade1 : OpenFade :=
  { id := 1, start := 90#16, duration := 10, minS := 200, rOpen := 6, lowR := 5, downshifts := 1, urgents := 0,
    stressSum := 40, stressCount := 4 }

/-- The live link within a fade. -/
def fading : State := { live with fade := { live.fade with openFade := some fade1, idCounter := 1 } }

theorem witness_LinkStopAnswers :
    (∀ s ∈ [linkIn .config live, linkIn .sync live, linkIn .caps live, live, fading],
      (asked s 0x08#8 []).Ready { kind := 0x08#8, tag := 7#8, payload := [] }) ∧
    live.fade.openFade = none ∧ fading.fade.openFade = some fade1 ∧ fading.fade.log.length ≤ 32 ∧
    fading.fade.log.length < 32 ∧ ∀ run, let s : State := { fading with
      fade := { fading.fade with log := List.replicate 32 (fade1.close .default .recovered), exitLen := run } }
      (asked s 0x08#8 []).Ready { kind := 0x08#8, tag := 7#8, payload := [] } ∧ s.link.state = .run ∧
      s.fade.openFade = some fade1 ∧ s.fade.exitLen = run ∧ s.fade.log.length ≤ 32 ∧ 32 ≤ s.fade.log.length := by
  refine ⟨fun s hs => ?_, rfl, rfl, by decide, by decide, fun _ =>
    ⟨asked_ready _ _ _ rfl (by decide : 0 < 8) rfl, rfl, rfl, rfl, (List.length_replicate ..).le,
      (List.length_replicate ..).ge⟩⟩
  simp only [List.mem_cons, List.not_mem_nil, or_false] at hs
  rcases hs with rfl | rfl | rfl | rfl | rfl <;> exact ⟨rfl, rfl, by decide, rfl⟩

theorem witness_ForceAnswers :
    (∀ mode p, (asked live 0x09#8 [mode, p]).Ready { kind := 0x09#8, tag := 7#8, payload := [mode, p] }) ∧
    2 < (3#8).toNat ∧ 15 < (16#8).toNat ∧ (15#8).toNat = (15 : Profile).val ∧
    live.table.negotiated.getLsbD (10 : Profile).val = true ∧
    live.table.negotiated.getLsbD (11 : Profile).val = false :=
  ⟨fun _ _ => live_ready _ _, by decide, by decide, by decide, by decide, by decide⟩

/-- The state with the pilots owed as given. -/
def owing (n : Nat) (s : State) : State := { s with tx := { s.tx with owed := n } }

theorem witness_PilotsAreAdded :
    (∀ s ∈ [linkIn .caps live, owing 6 live, owing 7 live, owing 8 live],
      (asked s 0x0A#8 []).Ready { kind := 0x0A#8, tag := 7#8, payload := [] } ∧ s.Running ∧ s.tx.pilotTimer.isSome) ∧
    (linkIn .caps live).link.state ≠ .run ∧ (owing 6 live).tx.owed < 7 ∧ 7 ≤ (owing 7 live).tx.owed := by
  refine ⟨fun s hs => ?_, by decide, by decide, by decide⟩
  simp only [List.mem_cons, List.not_mem_nil, or_false] at hs
  rcases hs with rfl | rfl | rfl | rfl <;> exact ⟨⟨rfl, rfl, by decide, rfl⟩, rfl, rfl⟩

theorem witness_ReadStatusAnswers :
    (∀ mask, (asked live 0x0B#8 [mask]).Ready { kind := 0x0B#8, tag := 7#8, payload := [mask] }) ∧
    0xC0#8 &&& 0x3F#8 = 0#8 ∧ 0xE0#8 &&& 0x3F#8 ≠ 0#8 := ⟨fun _ => live_ready _ _, by decide, by decide⟩

theorem witness_ReadHistoryAnswers :
    (∀ start count, (asked live 0x0C#8 (le16 start ++ [count])).Ready
      { kind := 0x0C#8, tag := 7#8, payload := le16 start ++ [count] }) ∧
    511 < (512#16).toNat ∧ (0#8).toNat < 1 ∧ 24 < (25#8).toNat ∧
    ((511#16).toNat ≤ 511 ∧ 1 ≤ (1#8).toNat ∧ (24#8).toNat ≤ 24) :=
  ⟨fun _ _ => live_ready _ _, by decide, by decide, by decide, by decide⟩

theorem witness_ReadFadesTakesOldest :
    (∀ max, (asked live 0x0D#8 [max]).Ready { kind := 0x0D#8, tag := 7#8, payload := [max] }) ∧
    (0#8).toNat < 1 ∧ 6 < (7#8).toNat ∧ (1 ≤ (1#8).toNat ∧ (6#8).toNat ≤ 6) :=
  ⟨fun _ => live_ready _ _, by decide, by decide, by decide⟩

theorem witness_ReadBinAnswers :
    (∀ sel age, (asked { live with monitor := oneBin } 0x0E#8 [sel, age]).Ready
      { kind := 0x0E#8, tag := 7#8, payload := [sel, age] }) ∧
    2 < (3#8).toNat ∧ 31 < (32#8).toNat ∧ (31#8).toNat < oneBin.closed.length ∧
    (twoBins.closed.length ≤ (0#8).toNat ∧ (31#8).toNat ≤ 31) :=
  ⟨fun _ _ => asked_ready _ _ _ rfl (by decide) rfl, by decide, by decide, by decide, by decide⟩

theorem witness_EventRequestsAnswer :
    (∀ set, (asked live 0x0F#8 (le32 set)).Ready { kind := 0x0F#8, tag := 7#8, payload := le32 set } ∧
      (asked live 0x10#8 (le32 set)).Ready { kind := 0x10#8, tag := 7#8, payload := le32 set }) ∧
    (asked live 0x11#8 []).Ready { kind := 0x11#8, tag := 7#8, payload := [] } ∧
    (live.host.raised.getLsbD EventFlag.resync.num = false ∧ live.host.enabled.getLsbD EventFlag.resync.num = false ∧
      live.host.raised.getLsbD EventFlag.starved.num = false ∧ live.host.enabled.getLsbD EventFlag.starved.num = true ∧
      (sendingOut live (List.replicate 6 notice)).host.outQueue.length ≤ 6 ∧
      ¬ (sendingOut live (List.replicate 7 notice)).host.outQueue.length ≤ 6) ∧
    (live.raise .starved).host.raised.getLsbD EventFlag.starved.num = true :=
  ⟨fun _ => ⟨live_ready _ _, live_ready _ _⟩, live_ready _ _, by decide, by decide⟩

/-- R174, R177: the notice of STARVED, number 11, with the whole set, when two places are free and not when one is. -/
theorem test_event_notice :
    ((sendingOut live (List.replicate 6 notice)).raise .starved).host.outQueue =
      List.replicate 6 notice ++ [{ kind := 0x41#8, tag := 0#8, payload := [11#8, 0#8, 8#8, 0#8, 0#8] }] ∧
    ((sendingOut live (List.replicate 7 notice)).raise .starved).host.outQueue = List.replicate 7 notice := by decide

/-- The live link with a report triggered and `n` messages in the output queue. -/
def reporting (n : Nat) : State :=
  { live with host := { live.host with
      outQueue := List.replicate n notice
      watch := { live.host.watch with mode := .onSwitch, mask := 0x3F#6, triggered := [.rxChange] } } }

theorem witness_WatchReports :
    (∀ mode mask period, (asked live 0x12#8 ([mode, mask] ++ le16 period)).Ready
      { kind := 0x12#8, tag := 7#8, payload := [mode, mask] ++ le16 period }) ∧
    (3 < (4#8).toNat ∧ 0xC0#8 &&& 0x3F#8 = 0#8 ∧ (15#16).toNat < 16 ∧ ¬ (16#16).toNat < 16) ∧
    (∀ n, (reporting n).Running ∧ (reporting n).host.watch.triggered = .rxChange :: []) ∧
    ((reporting 6).host.outQueue.length ≤ 6 ∧ 6 < (reporting 7).host.outQueue.length) ∧
    ((∃ t, exec .watchReport (reporting 6) = .next t) ∧ live.Running ∧ live.host.watch.triggered = [] ∧
      exec .watchReport live = .next live) ∧
    ∀ mode counter, ∃ w : WatchState, { live with host := { live.host with watch := w } }.host.watch = w ∧
      w.mode = mode ∧ w.counter = counter ∧ (counter = 14 → w.counter + 1 < w.period) ∧
      (counter = 15 → w.period ≤ w.counter + 1) :=
  ⟨fun _ _ _ => live_ready _ _, by decide, fun _ => ⟨rfl, rfl⟩, by decide, ⟨⟨_, rfl⟩, rfl, rfl, rfl⟩, fun mode counter =>
    ⟨{ live.host.watch with mode := mode, mask := 1#6, period := 16, counter := counter }, rfl, rfl, rfl,
      by rintro rfl; exact (by decide : 14 + 1 < 16), by rintro rfl; exact (by decide : 16 ≤ 15 + 1)⟩⟩

theorem witness_RestartAnswersAndTakesEffect :
    (asked live 0x13#8 []).Ready { kind := 0x13#8, tag := 7#8, payload := [] } ∧
    ∀ s ∈ [live, fading], ∃ t : State,
      t = sendingOut { s with host := { s.host with restarting := true } } [{ kind := 0x93#8, tag := 7#8, payload := [0#8] }] ∧
      t.Running ∧ t.host.restarting = true ∧
      t.host.outQueue.head? = some { kind := 0x93#8, tag := 7#8, payload := [0#8] } ∧ t.fade.log.length ≤ 32 := by
  refine ⟨live_ready _ _, fun s hs => ⟨_, rfl, ?_⟩⟩
  simp only [List.mem_cons, List.not_mem_nil, or_false] at hs
  rcases hs with rfl | rfl <;> exact ⟨rfl, rfl, rfl, by decide⟩

/-! ## Witnesses: the modem's records and the timers -/

/-- The bytes, after the code byte, of an RX_METRICS record that bears the number `n` and zeros. -/
def record (n : FrameNo) : List Byte := (withCheck ([0xD1#8] ++ le16 n ++ List.replicate 23 0#8)).drop 1

/-- A record of the right length with a damaged check. -/
def badRecord (n : FrameNo) : List Byte := le16 n ++ List.replicate 25 0#8

theorem record_good : goodRecord 28 (0xD1#8 :: record 100#16) = true ∧ wordAt (0xD1#8 :: record 100#16) 1 = 100#16 ∧
    goodRecord 28 (0xD1#8 :: badRecord 100#16) = false := by decide +kernel

/-- The live link with the intake as given. -/
def intakeIn (st : IntakeState) (run last : Nat) (s : State) : State :=
  { s with intake := { s.intake with state := st, runLen := run, runLast := BitVec.ofNat 16 last } }

theorem witness_IgnoredRecords : (intakeIn .idle 0 0 (linkIn .config live)).intake.state = .idle := rfl

theorem witness_SearchLocksAfterRun :
    let s (run : Nat) : State := linkIn .sync (intakeIn .search run 99 live)
    (∀ run, (s run).Running ∧ (s run).intake.state = .search ∧ (s run).link.state ≠ .run) ∧
    ((s 14).intake.runLen ≠ 0 ∧ wordAt (0xD1#8 :: record 100#16) 1 = (s 14).intake.runLast + 1#16 ∧
      14 + 1 < (s 14).settings.lockCount ∧ (s 15).settings.lockCount ≤ 15 + 1) := by
  refine ⟨fun _ => ⟨rfl, rfl, by simp [linkIn]⟩, by decide, by decide +kernel, by decide, by decide⟩

theorem witness_LockedRecordAdvances :
    (live.Running ∧ live.intake.state = .locked) ∧
    (goodRecord 28 (0xD1#8 :: record 103#16) = true ∧
      (wordAt (0xD1#8 :: record 103#16) 1 - live.intake.expected).toNat = 3 ∧
      (wordAt (0xD1#8 :: record 100#16) 1 - live.intake.expected).toNat = 0) ∧
    ∃ s : State, s.Running ∧ s.intake = live.intake ∧ s.link.state = .run ∧ s.link.missing + 3 + 1 < 64 ∧
      s.link.missing = 59 ∧ s.link.farWatch = 14 ∧ s.link.farWatch + 1 < 16 :=
  ⟨⟨rfl, rfl⟩, by decide +kernel, { live with link := { live.link with missing := 59, farWatch := 14 } },
    rfl, rfl, rfl, by decide, rfl, rfl, by decide⟩

theorem witness_LockedFaults :
    let s (bad missing far : Nat) : State := { live with
      intake := { live.intake with badCount := bad }, link := { live.link with missing := missing, farWatch := far } }
    let gap (n : FrameNo) : Nat := (wordAt (0xD1#8 :: record n) 1 - live.intake.expected).toNat
    (∀ bad missing far, (s bad missing far).Running ∧ (s bad missing far).intake.state = .locked ∧
      (s bad missing far).link.state = .run) ∧
    (goodRecord 28 (0xD1#8 :: record 99#16) = true ∧ gap 99#16 = 65535) ∧
    (goodRecord 28 (0xD1#8 :: record 104#16) = true ∧ gap 104#16 = 4 ∧
      goodRecord 28 (0xD1#8 :: record 98#16) = true ∧ gap 98#16 = 65534) ∧
    (goodRecord 28 (0xD1#8 :: badRecord 100#16) = false ∧
      (s 7 0 0).settings.badLimit ≤ (s 7 0 0).intake.badCount + 1 ∧
      (s 6 62 15).intake.badCount + 1 < (s 6 62 15).settings.badLimit ∧
      (s 6 62 15).link.missing + 1 < 64 ∧ (s 6 62 15).link.farWatch < 16) := by
  refine ⟨fun _ _ _ => ⟨rfl, rfl, rfl⟩, ?_⟩
  decide +kernel

theorem witness_ResyncRecords :
    let s (st : LinkPhase) (run count : Nat) : State := linkIn st { intakeIn .resync run 99 live with
      intake := { (intakeIn .resync run 99 live).intake with resyncCount := count }
      link := { live.link with missing := 62, farWatch := 14 } }
    (∀ st run count, (s st run count).Running ∧ (s st run count).intake.state = .resync ∧
      (s st run count).link.state = st) ∧
    (wordAt (0xD1#8 :: record 100#16) 1 = (s .run 3 0).intake.runLast + 1#16 ∧ 4 ≤ (s .run 3 0).intake.runLen + 1 ∧
      (s .run 2 0).intake.runLen + 1 < 4 ∧ (s .run 3 0).link.missing + 1 < 64 ∧ (s .run 3 0).link.farWatch + 1 < 16) ∧
    ((s .run 2 63).intake.resyncCount + 1 ≤ (s .run 2 63).settings.resyncLimit ∧
      (s .run 2 64).settings.resyncLimit < (s .run 2 64).intake.resyncCount + 1) := by
  refine ⟨fun _ _ _ => ⟨rfl, rfl, rfl⟩, ?_⟩
  decide +kernel

theorem witness_SilenceExpiry :
    ∀ s ∈ [intakeIn .search 0 0 (linkIn .sync live), live, intakeIn .resync 0 0 live, intakeIn .resync 0 0 fading,
      intakeIn .resync 0 0 (linkIn .sync live), intakeIn .resync 0 0 (linkIn .caps live)],
      s.Running ∧ s.intake.silence.isSome ∧ s.fade.log.length ≤ 32 := by
  intro s hs
  simp only [List.mem_cons, List.not_mem_nil, or_false] at hs
  rcases hs with rfl | rfl | rfl | rfl | rfl | rfl <;> exact ⟨rfl, rfl, by decide⟩

/-- A good header with the phase and the caps half given. -/
def header (p : Phase) (half : Bool) : Metrics := { metrics with hcw := { metrics.hcw with phase := p, capsHalf := half } }

theorem witness_LinkPassages :
    (∀ st ∈ [LinkPhase.sync, LinkPhase.caps],
      let s : State := { live with link := { live.link with state := st, acqTimer := some 1 } }
      s.Running ∧ s.link.acqTimer.isSome ∧ (s.link.state = .sync ∨ s.link.state = .caps)) ∧
    (∀ mark half, let t : ProfileTable := { live.table with mark0 := mark, mark1 := !mark }
      (if (header .run half).hcw.capsHalf then t.mark0 else t.mark1) = (if half then mark else !mark)) ∧
    ((header .run false).hcw.capsHalf = false ∧ (header .run true).hcw.capsHalf = true ∧
      live.table.mark0 = true ∧ live.table.mark1 = true ∧ State.reset.table.mark0 = false) ∧
    ((header .caps false).hcw.phase = .caps ∧ (header .run false).hcw.phase = .run ∧
      (header .sync false).hcw.phase = .sync ∧ (header .halt false).hcw.phase = .halt) ∧
    ((linkIn .sync live).link.state = .sync ∧ (linkIn .caps live).link.state = .caps ∧
      (linkIn .config live).link.state = .config) ∧
    ∃ s : Nat → Nat → State, ∀ far missing, (s far missing).link.state = .run ∧
      (s far missing).link.farWatch = far ∧ (s far missing).link.missing = missing := by
  refine ⟨?_, fun _ _ => rfl, ⟨rfl, rfl, rfl, rfl, rfl⟩, ⟨rfl, rfl, rfl, rfl⟩, ⟨rfl, rfl, rfl⟩,
    fun far missing => { live with link := { live.link with farWatch := far, missing := missing } },
    fun _ _ => ⟨rfl, rfl, rfl⟩⟩
  simp only [List.mem_cons, List.not_mem_nil, or_false]
  rintro st (rfl | rfl) <;> exact ⟨rfl, rfl, by simp⟩

/-- The state with the limit state, the last TXLIM sample and held A as given. -/
def limited (l : LimitState) (last : Option LimitSample) (held : Option Nat) (s : State) : State :=
  { s with power := { s.power with limit := l, lastSample := last, heldA := held } }

/-- The state with a swap pending or none, and the load of the pilot timer waiting or not. -/
def atSlot (swap : Option Nat) (reload : Bool) (s : State) : State :=
  { s with table := { s.table with pendingSwap := swap }, tx := { s.tx with pilotReload := reload } }

theorem witness_SlotOutsideRun : ∀ s ∈ [linkIn .sync live, linkIn .caps live, linkIn .config live,
    { linkIn .config live with tx := { live.tx with haltCount := 1 } }], ∀ l last held swap reload,
    let x := atSlot swap reload (limited l last held s)
    x.Running ∧ x.intake.sending = none ∧ x.link.state ≠ .run ∧ x.table.pendingSwap = swap ∧
    x.tx.pilotReload = reload ∧ x.power.limit = l ∧ x.power.lastSample = last := by
  intro s hs l last held swap reload
  simp only [List.mem_cons, List.not_mem_nil, or_false] at hs
  rcases hs with rfl | rfl | rfl | rfl <;> exact ⟨rfl, rfl, by simp [atSlot, limited, linkIn], rfl, rfl, rfl, rfl⟩

theorem default_settings_lawful : Settings.default.Lawful := by
  refine ⟨fun id h1 h2 => ?_, by decide, by decide⟩
  interval_cases id <;>
    exact ⟨_, rfl, by simp [settingAdmits, settingKind, Settings.default, DivMode.code, AtpcMode.code]⟩

theorem live_tableLaw : live.TableLaw :=
  ⟨default_settings_lawful, by decide +kernel, worked_valid31, by decide, by decide⟩

theorem witness_SlotInRunKeepsPowerBounds : ∀ l last held timer owed st ask answer swap reload,
    let s := atSlot swap reload (limited l last held { live with
      tx := { live.tx with pilotTimer := timer, owed := owed }
      hop := { live.hop with lane := { live.hop.lane with state := st, pending := ask }, answer := answer } })
    s.hop.lane.state = st ∧ s.hop.lane.pending = ask ∧ s.hop.answer = answer ∧
    s.Running ∧ s.intake.sending = none ∧ s.link.state = .run ∧ s.table.pendingSwap = swap ∧ s.TableLaw ∧
    s.power.limit = l ∧ s.power.lastSample = last ∧ s.power.heldA = held ∧ s.tx.pilotTimer = timer ∧ s.tx.owed = owed ∧
    s.tx.pilotReload = reload ∧ s.tx.staged = none ∧ s.hop.far.fade = false ∧ s.tx.lastPilot = false ∧
    ∀ (g : StagedSwitch) (far last : Bool), ∃ x : State, x.tx.staged = some g ∧ x.hop.far.fade = far ∧
      x.tx.lastPilot = last ∧ x.Running ∧ x.intake.sending = none ∧ x.link.state = .run ∧ x.TableLaw :=
  fun _ _ _ _ _ _ _ _ _ _ => ⟨rfl, rfl, rfl, rfl, rfl, rfl, rfl,
    ⟨live_tableLaw.settings, live_tableLaw.own, live_tableLaw.valid, live_tableLaw.half0, live_tableLaw.negotiated⟩,
    rfl, rfl, rfl, rfl, rfl, rfl, rfl, rfl, rfl, fun g far last => ⟨{ live with
      tx := { live.tx with staged := some g, lastPilot := last }
      hop := { live.hop with far := { live.hop.far with fade := far } } }, rfl, rfl, rfl, rfl, rfl, rfl, live_tableLaw.settings,
      live_tableLaw.own, live_tableLaw.valid, live_tableLaw.half0, live_tableLaw.negotiated⟩⟩

/-- Section 6.6, slot s18: the countdown reaches 0 at step 3, and the first frame in the new profile is a pilot. One slot
earlier, with the countdown at 2, it is not. -/
theorem test_pilot_as_switch_executes :
    let s (n : Nat) : State := { live with tx := { live.tx with
      owed := 1, staged := some { profile := 7, countdown := n, seq := 2#3 } } }
    (s 1).slotSwitches.pilotDue = true ∧ (s 2).slotSwitches.pilotDue = false := by decide +kernel

theorem witness_StagedSwitchCountsDown :
    let s (mask : ProfileSet) (g : Option StagedSwitch) (l : LimitState) (last : Option LimitSample)
        (swap : Option Nat) : State :=
      atSlot swap false (limited l last none { live with
        table := { live.table with negotiated := mask }
        tx := { live.tx with staged := g }
        hop := { live.hop with answer := { live.hop.answer with kind := .agree, seq := 2#3 } } })
    let inN (mask : ProfileSet) (p : Profile) : Bool := mask.getLsbD p.val
    (∀ mask g l last swap, (s mask g l last swap).Running ∧ (s mask g l last swap).intake.sending = none ∧
      (s mask g l last swap).link.state = .run ∧ (s mask g l last swap).table.pendingSwap = swap ∧
      (s mask g l last swap).tx.staged = g ∧ (s mask g l last swap).table.negotiated = mask ∧ (s mask g l last swap).tx.active = 6 ∧
      (s mask g l last swap).power.limit = l ∧ (s mask g l last swap).power.lastSample = last ∧
      (s mask g l last swap).hop.answer.kind = .agree ∧ (s mask g l last swap).hop.answer.seq = 2#3) ∧
    (inN 0x07FF#16 6 = true ∧ inN 0x07FF#16 5 = true ∧ inN 0x07FF#16 7 = true ∧ inN 0x07FF#16 11 = false) ∧
    (inN 0x078F#16 6 = false ∧ inN 0x078F#16 3 = true ∧ inN 0x078F#16 7 = true ∧ inN 0x078F#16 5 = false ∧
      ∀ j : Profile, inN 0x078F#16 j = true → j < 6 → j ≤ 3) ∧
    ((6 : Profile) < 7 ∧ ¬ (6 : Profile) < 5 ∧ (3 : Profile) < 7 ∧ (7 : Profile) ≠ 3) ∧
    ∀ n ∈ [1, 2, 15], ∃ g : StagedSwitch, g.countdown = n ∧ g.seq = 2#3 :=
  ⟨fun _ _ _ _ _ => ⟨rfl, rfl, rfl, rfl, rfl, rfl, rfl, rfl, rfl, rfl, rfl⟩, by decide, by decide, by decide,
    fun n _ => ⟨{ profile := 3, countdown := n, seq := 2#3 }, rfl, rfl⟩⟩

theorem witness_SlotsWaitInTurn :
    let d : Descriptor := { echo := 0#16, profile := 0, attenuation := 0, mute := false, pilot := false, hcw := Hcw.decode 0#32 }
    let s (w : Option SlotRecord) : State :=
      { live with intake := { live.intake with sending := some { descriptor := d, record := d.record }, waiting := w } }
    (∀ w, (s w).Running ∧ (s w).intake.sending = some { descriptor := d, record := d.record }) ∧
    (s none).intake.waiting = none ∧
    (s (some { good := goodRecord 5 [0xD2#8], number := wordAt [0xD2#8] 1 })).intake.waiting =
      some { good := goodRecord 5 (0xD2#8 :: []), number := wordAt (0xD2#8 :: []) 1 } :=
  ⟨fun _ => ⟨rfl, rfl⟩, rfl, rfl⟩

/-- The live link with the request lane as given. -/
def laneIn (st : LaneState) (timeouts : Nat) : State :=
  { live with hop := { live.hop with lane := { live.hop.lane with state := st, timeouts := timeouts } } }

theorem witness_RequestLaneMoves :
    (∀ st n, (laneIn st n).Running ∧ (laneIn st n).link.state = .run ∧ (laneIn st n).hop.lane.state = st) ∧
    (laneIn .asking 1).hop.lane.timeouts < 2 ∧ 2 ≤ (laneIn .asking 2).hop.lane.timeouts ∧
    (∀ st ∈ [LinkPhase.config, .sync, .caps, .run], (linkIn st live).link.state = st) ∧
    (∀ (st : LaneState) (a : PendingAsk) (kind : AnswerKind) (value : BitVec 4) (fresh : Bool) (n : Nat), ∃ s : State,
      s.link.state = .run ∧ s.hop.lane.state = st ∧ s.hop.lane.pending = some a ∧ s.hop.r = 6 ∧
      s.hop.lane.fresh = fresh ∧ s.hop.lane.answerTimer = n ∧ s.hop.lane.deadline = n ∧ s.hop.lane.backoffTimer = n ∧
      s.hop.far.ansKind = kind ∧ s.hop.far.ansSeq = s.hop.lane.seq ∧ s.hop.far.ansValue = value) ∧
    ((5 : Profile) < 6 ∧ (6 : Profile) < 7 ∧ (5 : Profile) ≤ 5 ∧ ¬ (5 : Profile) ≤ 4) ∧
    (live.hop.r = 6 ∧ metrics.rxProfile = 6 ∧ { metrics with rxProfile := 5 }.rxProfile < live.hop.r ∧
      live.hop.r < { metrics with rxProfile := 7 }.rxProfile) :=
  ⟨fun _ _ => ⟨rfl, rfl, rfl⟩, by decide, by decide, fun _ _ => rfl, fun st a kind value fresh n => ⟨{ live with
      hop := { live.hop with
        lane := { live.hop.lane with
          state := st, pending := some a, fresh := fresh, answerTimer := n, deadline := n, backoffTimer := n }
        far := { live.hop.far with ansKind := kind, ansSeq := live.hop.lane.seq, ansValue := value } } },
    rfl, rfl, rfl, rfl, rfl, rfl, rfl, rfl, rfl, rfl, rfl⟩, by decide, by decide⟩

theorem witness_SecondEndCommits :
    let s (a : Availability) (w : List PendingSecond) (i t h : Nat) : State :=
      { live with monitor := { Monitor.start 0 [] with
          current := fullBin 0, availability := a, window := w, secondIndex := i, t := t, h := h, degraded := false } }
    let run (n : Nat) : List PendingSecond := List.replicate n { cls := .ses, bin := 0 }
    (∀ a w i t h, (s a w i t h).Running ∧ (s a w i t h).monitor.earlier = none ∧
      (s a w i t h).monitor.availability = a ∧ (s a w i t h).monitor.current.seconds = 899) ∧
    ((s .available [] 898 0 0).monitor.secondIndex < 899 ∧ (s .available [] 899 0 0).monitor.secondIndex = 899) ∧
    (¬ ((0 : Nat) = 100 ∨ live.settings.sesPercent * 100 ≤ (0 + 29) * 100) ∧
      live.settings.sesPercent * 100 ≤ (0 + 30) * 100) ∧
    (∀ n ∈ [8, 9], run n ≠ [] ∧ (∀ x ∈ run n, x.bin = (fullBin 0).number) ∧
      { fullBin 0 with seconds := 899 - n }.seconds + (run n).length = 899) ∧
    (run 9 ≠ [] ∧ live.settings.unavailRun ≤ (run 9).length + 1 ∧ (run 8).length + 1 < live.settings.unavailRun) ∧
    (twoBins.secondIndex < 899 ∧ twoBins.earlier = some (fullBin 4) ∧ (fullBin 4).number ≠ twoBins.current.number ∧
      twoBins.window = [{ cls := .ok, bin := 4 }] ++ [{ cls := .es, bin := 5 }] ∧ (fullBin 4).seconds + 1 = 900) ∧
    (∀ a new, let m : Monitor := { twoBins with availability := a, window := { cls := .ok, bin := 4 } :: new }
      { live with monitor := m }.Running ∧ m.availability = a ∧ m.earlier = some (fullBin 4) ∧ m.closed.length ≤ 32 ∧
      m.window = [{ cls := .ok, bin := 4 }] ++ new) ∧
    (let new (n : Nat) : List PendingSecond := List.replicate n { cls := .ok, bin := 5 };
      (∀ n, ∀ x ∈ new n, x.bin = twoBins.current.number) ∧
      live.settings.unavailRun ≤ 1 + (new 8).length + 1 ∧ 1 + (new 7).length + 1 < live.settings.unavailRun) :=
  ⟨fun _ _ _ _ _ => ⟨rfl, rfl, rfl, rfl⟩, by decide, by decide, by decide, by decide, by decide,
    fun _ _ => ⟨rfl, rfl, rfl, (by decide : twoBins.closed.length ≤ 32), rfl⟩,
    fun _ _ hx => congrArg PendingSecond.bin (List.eq_of_mem_replicate hx), by decide, by decide⟩

/-! ## Witnesses: the blocks at an entry, and the laws -/

/-- The Estimator's values of an entry with S as given. -/
def entryWith (sValue : Nat) : EntryValues :=
  { history := { (live.est.ring.headD (heldEntry (blankEntry (heldFrame 0#16) .combine false) [])) with s := sValue }
    stress := some 4, prevFrame := some 98#16 }

/-- The Estimator's values of a resumed entry or of one that is not. -/
def entryAt (sValue : Nat) (resumed : Bool) : EntryValues :=
  { entryWith sValue with history := { (entryWith sValue).history with resumed := resumed } }

/-- An entry made from the record given, or a held frame. -/
def madeFrom (record : Option Metrics) (resumed : Bool) : Entry :=
  { frame := 100#16, resumed := resumed, record := record, headerValid := true }

theorem witness_EstimatorHandlesEntry :
    (1008 ≤ 16 * 63 ∧ 16 * 63 < 1009) ∧
    ({ metrics with mainValid := false }.mainValid = false ∧ { metrics with spaceValid := false }.spaceValid = false ∧
      metrics.mainValid = true ∧ metrics.spaceValid = true ∧ { metrics with pilot := true }.pilot = true) ∧
    (∀ record resumed, (madeFrom record resumed).record = record ∧ (madeFrom record resumed).resumed = resumed) ∧
    (∀ mode, { live with settings := { live.settings with divMode := mode } }.settings.divMode = mode) ∧
    (live.fade.openFade = none ∧ live.fade.justClosed = false ∧ fading.fade.openFade.isSome) ∧
    (State.reset.est.ring = [] ∧ State.reset.est.s16 = none ∧ live.est.ring ≠ [] ∧ live.est.ring.length < 8) ∧
    (∀ hold starved old, ∃ s : State, s.est.hold = hold ∧ s.est.starved = starved ∧ s.est.s16 = some old) ∧
    ∀ y, live.est.ring.head? = some y → ∀ last : Bool,
      let ring := List.replicate 7 { y with resumed := false } ++ [{ y with resumed := last }]
      ring[7]? = some { y with resumed := last } ∧ ∀ z ∈ ring.take 7, z.resumed = false :=
  ⟨by decide, ⟨rfl, rfl, rfl, rfl, rfl⟩, fun _ _ => ⟨rfl, rfl⟩, fun _ => rfl, ⟨rfl, rfl, rfl⟩,
    ⟨rfl, rfl, nofun, by decide⟩,
    fun hold starved old => ⟨{ live with est := { live.est with hold := hold, starved := starved, s16 := some old } },
      rfl, rfl, rfl⟩,
    fun y _ _ => ⟨rfl, fun z hz => by
      rw [List.eq_of_mem_replicate (show z ∈ List.replicate 7 { y with resumed := false } from hz)]⟩⟩

theorem witness_FadeOpensAndCloses :
    let s (run counter duration : Nat) (log : List FadeRecord) : State := { live with fade := { live.fade with
      entryLen := run, idCounter := counter, log := log, entryAcc := { RunAccumulators.empty with duration := duration } } }
    let f (run duration : Nat) (long : Bool) : State := { fading with
      fade := { fading.fade with
        openFade := some { fade1 with duration := duration }, exitLen := run, longMark := long } }
    (∀ run counter duration log, (s run counter duration log).link.state = .run ∧
      (s run counter duration log).fade.openFade = none ∧ (s run counter duration log).fade.log = log ∧
      (s run counter duration log).fade.idCounter = counter ∧
      (s run counter duration log).fade.entryAcc.duration = duration) ∧
    (4294967294 < 4294967295 ∧ live.settings.fadeLimit ≤ min 4294967295 (39999 + 1) ∧
      min 4294967295 (39998 + 1) < live.settings.fadeLimit) ∧
    ((entryWith 240).history.s + live.settings.fadeEnter ≤ live.settings.clearSky ∧
      live.settings.fadePersist ≤ (s 2 0 2 []).fade.entryLen + 1 ∧
      (s 1 0 1 []).fade.entryLen + 1 < live.settings.fadePersist) ∧
    (0 < live.settings.fadeEnter ∧ live.settings.clearSky < (entryWith 241).history.s + live.settings.fadeEnter) ∧
    (∀ run duration long, (f run duration long).link.state = .run ∧ (f run duration long).fade.exitLen = run ∧
      (f run duration long).fade.openFade = some { fade1 with duration := duration } ∧
      (f run duration long).fade.longMark = long ∧ (f run duration long).fade.log.length ≤ 32) ∧
    (live.settings.clearSky ≤ (entryWith 270).history.s + live.settings.fadeExit ∧
      ¬ live.settings.clearSky ≤ (entryWith 269).history.s + live.settings.fadeExit ∧
      live.settings.fadePersist ≤ 2 + 1 ∧ 1 + 1 < live.settings.fadePersist) ∧
    (live.settings.fadeLimit ≤ 40000 ∧ 39999 < live.settings.fadeLimit) ∧
    (∀ resumed, (entryAt 269 resumed).history.resumed = resumed) :=
  ⟨fun _ _ _ _ => ⟨rfl, rfl, rfl, rfl, rfl⟩, by decide, by decide, by decide, fun _ _ _ => ⟨rfl, rfl, rfl, rfl,
    (by decide : fading.fade.log.length ≤ 32)⟩, by decide, by decide, fun _ => rfl⟩

/-- R63 to R70: from r = 6 with the worked table, each rule at the ends of its condition, with the target the rule gives. -/
theorem witness_DecisionTargets :
    let i (p sValue : Nat) (neg : ProfileSet) : DecisionInput :=
      { s := sValue, p := p, uncorrectable := false, starved := false, fade := false, r := 6, negotiated := neg,
        table := worked .zero, set := .default }
    let u : DecisionUnit := State.reset.decision
    let gives (u : DecisionUnit) (i : DecisionInput) (rule : RuleName) (p : Profile) : Prop :=
      inSet i.negotiated 0 = true ∧
        (u.handle i).last = some { rule := rule, target := p, urgent := rule == .starved || rule == .urgent }
    let rising (n : Nat) : DecisionUnit := { u with upCandidate := some 7, upDwell := n }
    gives u { i 220 300 0x07FF#16 with starved := true } .starved 0 ∧
    gives u (i 199 300 0x07FF#16) .urgent 5 ∧
    gives { u with force := .ceiling 4 } (i 199 300 0x07FF#16) .urgent 4 ∧
    gives u (i 200 300 0x07FF#16) .downshift 5 ∧
    gives { u with force := .pinned 4 } (i 200 300 0x07FF#16) .pinned 4 ∧
    gives u (i 220 300 0x07BF#16) .outOfSet 5 ∧
    gives { u with force := .ceiling 4 } (i 220 300 0x07FF#16) .outOfSet 4 ∧
    gives { u with errorWindow := [true] } { i 220 279 0x07FF#16 with uncorrectable := true } .error 5 ∧
    gives u { i 220 279 0x07FF#16 with uncorrectable := true } .none 6 ∧
    gives (rising 31) (i 220 280 0x07FF#16) .upshift 7 ∧ gives (rising 30) (i 220 280 0x07FF#16) .none 6 ∧
    gives (rising 31) (i 220 279 0x07FF#16) .none 6 ∧
    gives { rising 31 with force := .ceiling 6 } (i 220 280 0x07FF#16) .none 6 ∧
    live.link.state = .run ∧ (linkIn .sync live).link.state ≠ .run := by decide +kernel

theorem witness_AskIsAnsweredOnce :
    let s (kind : AskKind) (p : Profile) (last : Option Seq) : State := { live with hop := { live.hop with
      far := { live.hop.far with askKind := kind, askSeq := 2#3, askProfile := p }
      answer := { live.hop.answer with lastTaken := last } } }
    let staging : State := { live with tx := { live.tx with staged := some { profile := 7, countdown := 2, seq := 1#3 } } }
    (∀ kind p last, (s kind p last).link.state = .run ∧ (s kind p last).hop.far.askKind = kind ∧
      (s kind p last).hop.answer.lastTaken = last ∧ (s kind p last).hop.far.askSeq = 2#3 ∧
      (s kind p last).hop.far.askProfile = p) ∧
    (linkIn .caps (s .ask 7 none)).link.state ≠ .run ∧
    (∀ p : Profile, live.table.negotiated.getLsbD p.val = true ↔ p ≤ 10) ∧
    (live.tx.active = 6 ∧ live.tx.staged = none ∧ staging.tx.staged ≠ none) ∧
    (live.power.limit = .released ∧ (limited .limited none none live).power.limit = .limited) ∧
    ((owing 3 live).tx.owed < 4 ∧ 4 ≤ (owing 4 live).tx.owed) ∧
    ((live.table.active[(7 : Profile)]).backoff = 5 ∧ 5 ≤ live.power.a ∧
      { live with power := { live.power with a := 4 } }.power.a < 5) :=
  ⟨fun _ _ _ => ⟨rfl, rfl, rfl, rfl, rfl⟩, by decide, by decide, ⟨rfl, rfl, nofun⟩, ⟨rfl, rfl⟩, by decide,
    by decide +kernel⟩

theorem witness_PowerRequestsAtEntry :
    let v (rsl : Int) : EntryValues :=
      { entryWith 300 with history := { (entryWith 300).history with rsl := rsl } }
    let starved : State := { live with est := { live.est with starved := true } }
    (starved.link.state = .run ∧ starved.est.starved = true ∧ live.est.starved = false ∧
      live.fade.openFade = none ∧ fading.fade.openFade.isSome) ∧
    ((v (-121)).history.rsl < live.settings.rslLow - 20 ∧ live.settings.rslLow - 20 ≤ (v (-120)).history.rsl ∧
      (v (-101)).history.rsl < live.settings.rslLow ∧ live.settings.rslLow ≤ (v (-100)).history.rsl ∧
      (v (-80)).history.rsl ≤ live.settings.rslHigh ∧ live.settings.rslHigh < (v (-79)).history.rsl) ∧
    (∀ a ∈ [live.floor, 12, live.ceiling], ∀ count,
      (powered a count).link.state = .run ∧ (powered a count).floor ≤ (powered a count).power.a ∧
      (powered a count).power.a ≤ (powered a count).ceiling ∧ (powered a count).power.rateCount = count ∧
      (powered a count).settings.atpcMode = .auto ∧ (powered a count).power.slotMode = .auto ∧
      (powered a count).power.limit = .released) ∧
    (∀ r fade, ∃ m, asks r fade = some m ∧ m.hcw.powerReq = r ∧ m.hcw.fade = fade) ∧
    (live.floor = 4 ∧ live.ceiling = 31 ∧ 31 < (powered 32 1).power.a ∧
      ((powered 32 1).powerTransmit (asks .none false)).power.a = 31) ∧
    (linkIn .sync live).link.state ≠ .run := by
  refine ⟨⟨rfl, rfl, rfl, rfl, rfl⟩, by decide, fun a ha count => ?_, fun _ _ => ⟨_, rfl, rfl, rfl⟩,
    ⟨by decide +kernel, by decide +kernel, by decide, ?_⟩, by decide⟩
  rotate_left
  · rw [State.powerTransmit, entryMode_settled (by decide +kernel)]
    decide +kernel
  have key : ∀ a ∈ [live.floor, 12, live.ceiling], live.floor ≤ a ∧ a ≤ live.ceiling := by decide +kernel
  exact ⟨rfl, (key a ha).1, (key a ha).2, rfl, rfl, rfl, rfl⟩

theorem witness_HcwRoundTrip : (∃ w : HcwWord, w.extractLsb' 28 2 ≠ 3#2 ∧ w.extractLsb' 19 2 ≠ 3#2 ∧ w ≠ 0#32) ∧
    (2 ≤ 5 ∧ 2 ≤ 28 ∧ goodRecord 5 (0xD2#8 :: badRecord 0#16) = false ∧ goodRecord 5 (withCheck [0xD2#8, 1#8, 2#8]) = true) :=
  ⟨⟨0xEFF7FFFF#32, by decide⟩, by decide +kernel⟩

/-- The live link with the front of its queue at the end of a second. -/
def stepping : State := { live with pending := [.secondEnd] }

theorem witness_step : ∃ t, step stepping = .next t := ⟨_, rfl⟩

theorem witness_HostLawIsKept : stepping.HostLaw ∧ ∃ t, step stepping = .next t :=
  ⟨⟨⟨nofun, by rintro ⟨f, h, -⟩; revert h; cases f <;> decide⟩, by decide, by decide, by decide, by decide⟩,
    witness_step⟩

theorem witness_TableLawIsKept : stepping.TableLaw ∧ ∃ t, step stepping = .next t :=
  ⟨⟨default_settings_lawful, by decide +kernel, worked_valid31, by decide, by decide⟩, witness_step⟩

theorem witness_EstimatorLawsAreKept : stepping.est.Lawful ∧ stepping.FrameLaw ∧ ∃ t, step stepping = .next t :=
  ⟨⟨by decide, by decide, by rintro v ⟨⟩, by decide, by decide, by
      intro x hx
      rw [List.mem_singleton.1 (show x ∈ [_] from hx)]
      exact ⟨by decide, by decide, by decide, by decide, by decide, rfl, by decide⟩⟩,
    ⟨trivial, by rintro - x ⟨⟩; rfl⟩, witness_step⟩

theorem witness_FadeLawIsKept :
    let s : State := { fading with pending := [.secondEnd] }
    s.fade.Lawful ∧ ∃ t, step s = .next t :=
  ⟨⟨by decide, by decide, by decide, by decide, by rintro o ⟨⟩; exact ⟨rfl, by decide, by decide⟩⟩, _, rfl⟩

theorem witness_SignallingLawsAreKept :
    let s : State := { stepping with
      hop := { live.hop with lane := { live.hop.lane with
        state := .asking, pending := some { profile := 5, urgent := true }, answerTimer := 24, timeouts := 2 } }
      tx := { live.tx with staged := some { profile := 7, countdown := 15, seq := 2#3 }, owed := 8 } }
    s.hop.lane.Lawful ∧ s.settings.Lawful ∧ s.tx.Lawful ∧ ∃ t, step s = .next t :=
  ⟨⟨by decide, by decide, by decide, by decide, by decide, by decide⟩, default_settings_lawful,
    ⟨by rintro g ⟨⟩; decide, by decide, by decide⟩, _, rfl⟩

theorem witness_LinkLawIsKept : stepping.LinkLaw ∧ ∃ t, step stepping = .next t :=
  ⟨⟨by decide, by decide, by decide, by decide, by decide, by decide⟩, witness_step⟩

theorem witness_MonitorLawIsKept :
    let s : State := { stepping with monitor := twoBins }
    s.settings.Lawful ∧ s.monitor.Lawful ∧ s.HeldMonitor ∧ s.monitor.Numbered ∧ ∃ t, step s = .next t :=
  ⟨default_settings_lawful, twoBins_lawful, nofun, ⟨by decide, trivial⟩, _, rfl⟩

theorem witness_LinkTransitions : ∃ t, step stepping = .next t := witness_step

end Sys2Proof.Tests
end

section
/-! Channel Estimator: what each of its values can be, and the laws that an entry keeps (R16 to R33). -/

namespace Sys2Proof.Machine

/-! ## The Estimator's values -/

theorem effectiveSnr_eq (c : Combined) (weight : Nat) :
    effectiveSnr c weight = min 500 (c.snr - c.stress * weight / 64) := by
  unfold effectiveSnr clampNat clampInt
  split <;> [skip; split] <;> omega

theorem smoothStep_none (e down up : Nat) : smoothStep none e down up = 16 * e := by
  simp [smoothStep, Nat.mul_comm]

/-- A quotient by a power of two, rounded toward minus infinity, of a number that is not negative. -/
theorem div_pow_rises (d : Int) (k : Nat) (h : 0 ≤ d) : 0 ≤ d / 2 ^ k ∧ d / 2 ^ k ≤ d :=
  ⟨Int.ediv_nonneg h (by positivity), Int.ediv_le_self _ h⟩

/-- A quotient by a power of two, rounded toward minus infinity, of a negative number. -/
theorem div_pow_falls (d : Int) (k : Nat) (h : d < 0) : d ≤ d / 2 ^ k ∧ d / 2 ^ k < 0 := by
  have hp : (1 : Int) ≤ 2 ^ k := by exact_mod_cast Nat.one_le_two_pow
  exact ⟨(Int.le_ediv_iff_mul_le (by omega)).2 (by nlinarith), Int.ediv_neg_of_neg_of_pos h (by omega)⟩

/-- R23: S16 below its target is moved by smooth_up, and not past the target. -/
theorem smoothStep_up (v e down up : Nat) (h : v ≤ 16 * e) :
    (smoothStep (some v) e down up : Int) = v + (16 * e - v) / 2 ^ up ∧
      v ≤ smoothStep (some v) e down up ∧ smoothStep (some v) e down up ≤ 16 * e := by
  have hd := div_pow_rises (16 * e - v : Int) up (by omega)
  have key : (smoothStep (some v) e down up : Int) = v + (16 * e - v) / 2 ^ up := by
    simp only [smoothStep, if_neg (show ¬ 16 * e < v by omega), Nat.mul_comm e 16, Nat.cast_mul, Nat.cast_ofNat]
    omega
  omega

/-- R23: S16 above its target is moved by smooth_down, and not past the target. -/
theorem smoothStep_down (v e down up : Nat) (h : 16 * e < v) :
    (smoothStep (some v) e down up : Int) = v + (16 * e - v) / 2 ^ down ∧
      16 * e ≤ smoothStep (some v) e down up ∧ smoothStep (some v) e down up < v := by
  have hd := div_pow_falls (16 * e - v : Int) down (by omega)
  have key : (smoothStep (some v) e down up : Int) = v + (16 * e - v) / 2 ^ down := by
    simp only [smoothStep, if_pos h, Nat.mul_comm e 16, Nat.cast_mul, Nat.cast_ofNat]
    omega
  omega

/-- R23: S16 stays in 0..8000. -/
theorem smoothStep_le (s16 : Option Nat) (e down up : Nat) (hs : ∀ v, s16 = some v → v ≤ 8000) (he : e ≤ 500) :
    smoothStep s16 e down up ≤ 8000 := by
  cases s16 with
  | none => rw [smoothStep_none]; omega
  | some v =>
    have hv := hs v rfl
    by_cases h : v ≤ 16 * e
    · have := smoothStep_up v e down up h; omega
    · have := smoothStep_down v e down up (by omega); omega

/-- R25: the prediction, which is never above S. -/
theorem predict_eq (s : Nat) (d : Int) (horizon : Nat) :
    (predict s d horizon : Int) = max 0 (s + min 0 (d * horizon / 8)) := by
  unfold predict; omega

theorem predict_le (s : Nat) (d : Int) (horizon : Nat) : predict s d horizon ≤ s := by
  have := predict_eq s d horizon; omega

/-- R24: the slope does not look back past the ring's eighth entry, nor across a resumed one. -/
theorem slope_zero (s : Nat) (resumed : Bool) (ring : List HistoryEntry)
    (h : ring.length < 8 ∨ resumed = true ∨ ∃ y ∈ ring.take 7, y.resumed = true) :
    slope s resumed ring = 0 := by
  unfold slope
  split
  · rfl
  · next old hold =>
    have hlen := (List.getElem?_eq_some_iff.1 hold).1
    refine if_pos ?_
    rw [Bool.or_eq_true, List.any_eq_true]
    exact h.resolve_left (by omega)

theorem slope_back (s : Nat) (ring : List HistoryEntry) (y : HistoryEntry) (h : ring[7]? = some y)
    (hz : ∀ z ∈ ring.take 7, z.resumed = false) : slope s false ring = (s : Int) - y.s := by
  have hany : (ring.take 7).any (·.resumed) = false := by simpa using hz
  simp only [slope, h, hany, Bool.or_self, Bool.false_eq_true, if_false]

theorem slope_range (s : Nat) (resumed : Bool) (ring : List HistoryEntry) (hs : s ≤ 500)
    (hr : ∀ x ∈ ring, x.s ≤ 500) : -500 ≤ slope s resumed ring ∧ slope s resumed ring ≤ 500 := by
  unfold slope
  split
  · omega
  · next old hold =>
    have := hr old (List.mem_of_getElem? hold)
    split <;> omega

theorem combine_rsl (mode : DivMode) (m : Metrics) (offMain offSpace : Int) :
    (combine mode m offMain offSpace).rsl = m.main.rsl ∨ (combine mode m offMain offSpace).rsl = m.space.rsl := by
  unfold combine oneBranch
  cases mode <;> dsimp only <;> (repeat' split) <;> simp [Int.max_def] <;> omega

/-- R30: an offset stays in −50..+50. -/
theorem calibrate_range (valid : Bool) (b : Branch) (o : Int) (h : -50 ≤ o ∧ o ≤ 50) :
    -50 ≤ calibrate valid b o ∧ calibrate valid b o ≤ 50 := by
  unfold calibrate
  split <;> [exact clampInt_range _ _ _ (by decide); exact h]

/-! ## The two cases of an entry (R17) -/

/-- R17: only an entry with a record can be non-held. -/
theorem Entry.record_of_not_held (e : Entry) (mode : DivMode) (h : e.held mode = false) : ∃ m, e.record = some m := by
  unfold Entry.held at h
  split at h <;> [cases h; exact ⟨_, ‹_›⟩]

theorem Entry.good_isSome (e : Entry) (mode : DivMode) :
    (e.good mode).isSome = (e.headerValid && !e.held mode) := by
  unfold Entry.good
  cases hh : e.held mode with
  | true => simp
  | false =>
    obtain ⟨m, hm⟩ := e.record_of_not_held mode hh
    cases e.headerValid <;> simp [hm]

/-- R26, R27: the Estimator after a held entry. -/
theorem Estimator.handle_held (est : Estimator) (e : Entry) (inFade shown : Bool) (set : Settings)
    (h : e.held set.divMode = true) : est.handle e inFade shown set =
      ({ est with
          hold := saturate 255 (est.hold + 1)
          starved := est.starved || decide (set.holdLimit ≤ saturate 255 (est.hold + 1))
          ring := appendHistory (heldEntry (blankEntry e set.divMode shown) est.ring) est.ring },
        { history := heldEntry (blankEntry e set.divMode shown) est.ring, stress := none,
          prevFrame := est.ring.head?.map (·.frame) }) := by
  unfold Estimator.handle
  cases e.record <;> simp [blankEntry, h, nextHold, nextStarved]

/-- R18 to R21: what a non-held entry made from `m` combines to. -/
def Estimator.combined (est : Estimator) (m : Metrics) (set : Settings) : Combined :=
  combine set.divMode m est.offMain est.offSpace

/-- R22, R23: S16 after it. -/
def Estimator.nextS16 (est : Estimator) (m : Metrics) (set : Settings) : Nat :=
  smoothStep est.s16 (effectiveSnr (est.combined m set) set.stressWeight) set.smoothDown set.smoothUp

/-- R24, R25, R33: its history entry. -/
def Estimator.entryOf (est : Estimator) (e : Entry) (shown : Bool) (m : Metrics) (set : Settings) : HistoryEntry :=
  nonHeldEntry (blankEntry e set.divMode shown) (est.combined m set) (est.nextS16 m set) set est.ring

/-- R18 to R30: the Estimator after a non-held entry. -/
theorem Estimator.handle_nonHeld (est : Estimator) (e : Entry) (inFade shown : Bool) (set : Settings) (m : Metrics)
    (hm : e.record = some m) (h : e.held set.divMode = false) : est.handle e inFade shown set =
      ({ offMain := if m.pilot && !inFade then calibrate m.mainValid m.main est.offMain else est.offMain
         offSpace := if m.pilot && !inFade then calibrate m.spaceValid m.space est.offSpace else est.offSpace
         s16 := some (est.nextS16 m set), hold := 0, starved := false
         ring := appendHistory (est.entryOf e shown m set) est.ring },
        { history := est.entryOf e shown m set, stress := some (est.combined m set).stress,
          prevFrame := est.ring.head?.map (·.frame) }) := by
  simp [Estimator.handle, Estimator.entryOf, Estimator.nextS16, Estimator.combined, hm, blankEntry, h, nextHold,
    nextStarved]

/-! ## The laws of the Estimator at an entry (R23, R25, R27, R30, R32, R33) -/

theorem blankEntry_lawful (e : Entry) (mode : DivMode) (shown : Bool) : (blankEntry e mode shown).Lawful where
  e := Nat.zero_le _
  s := Nat.zero_le _
  p := le_rfl
  d := by simp [blankEntry]
  rsl := by simp [blankEntry]
  seen := by simp [blankEntry]
  header := by simp [blankEntry, Entry.good_isSome]

theorem heldEntry_lawful (blank : HistoryEntry) (ring : List HistoryEntry) (hb : blank.Lawful)
    (hr : ∀ x ∈ ring, x.Lawful) : (heldEntry blank ring).Lawful := by
  cases ring with
  | nil => exact hb
  | cons prev older =>
    have hp := hr prev (by simp)
    refine ⟨hp.e, hp.s, ?_, ?_, hp.rsl, hb.seen, hb.header⟩
    · simp only [heldEntry]
      split <;> [exact le_rfl; exact hp.p]
    · simp only [heldEntry]
      split <;> [decide; exact hp.d]

theorem nonHeldEntry_lawful (blank : HistoryEntry) (c : Combined) (s16 : Nat) (set : Settings)
    (ring : List HistoryEntry) (hb : blank.Lawful) (hc : -400 ≤ c.rsl ∧ c.rsl ≤ -40) (hs : s16 ≤ 8000)
    (hr : ∀ x ∈ ring, x.Lawful) : (nonHeldEntry blank c s16 set ring).Lawful where
  e := by simp [nonHeldEntry, effectiveSnr_eq]
  s := by simp only [nonHeldEntry]; omega
  p := predict_le _ _ _
  d := slope_range _ _ _ (by omega) fun x hx => (hr x hx).s
  rsl := hc
  seen := hb.seen
  header := hb.header

theorem Estimator.Lawful.entryOf {est : Estimator} (h : est.Lawful) (e : Entry) (shown : Bool) (m : Metrics)
    (set : Settings) (hm : m.InRange) : (est.entryOf e shown m set).Lawful := by
  refine nonHeldEntry_lawful _ _ _ _ _ (blankEntry_lawful _ _ _) ?_
    (smoothStep_le _ _ _ _ h.s16 (by simp [effectiveSnr_eq])) h.each
  obtain ⟨h1, h2⟩ := hm
  rcases combine_rsl set.divMode m est.offMain est.offSpace with hc | hc <;> simp only [Estimator.combined, hc] <;>
    assumption

theorem appendHistory_length (x : HistoryEntry) (ring : List HistoryEntry) : (appendHistory x ring).length ≤ 512 :=
  List.length_take_le _ _

theorem appendHistory_lawful (x : HistoryEntry) (ring : List HistoryEntry) (hx : x.Lawful)
    (hr : ∀ y ∈ ring, y.Lawful) : ∀ y ∈ appendHistory x ring, y.Lawful := by
  intro y hy
  rcases List.mem_cons.1 (List.mem_of_mem_take hy) with rfl | hy
  · exact hx
  · exact hr y hy

/-- An entry whose record is in range leaves the Estimator lawful. -/
theorem Estimator.Lawful.handle {est : Estimator} (h : est.Lawful) (e : Entry) (he : e.InRange)
    (inFade shown : Bool) (set : Settings) : (est.handle e inFade shown set).1.Lawful := by
  cases hh : e.held set.divMode with
  | true =>
    rw [est.handle_held e inFade shown set hh]
    exact ⟨h.main, h.space, h.s16, min_le_left _ _, appendHistory_length _ _,
      appendHistory_lawful _ _ (heldEntry_lawful _ _ (blankEntry_lawful _ _ _) h.each) h.each⟩
  | false =>
    obtain ⟨m, hm⟩ := e.record_of_not_held _ hh
    rw [est.handle_nonHeld e inFade shown set m hm hh]
    refine ⟨?_, ?_, ?_, Nat.zero_le _, appendHistory_length _ _,
      appendHistory_lawful _ _ (h.entryOf e shown m set (he m hm)) h.each⟩
    · dsimp only
      split <;> [exact calibrate_range _ _ _ h.main; exact h.main]
    · dsimp only
      split <;> [exact calibrate_range _ _ _ h.space; exact h.space]
    · rintro v ⟨⟩
      exact smoothStep_le _ _ _ _ h.s16 (by simp [effectiveSnr_eq])

end Sys2Proof.Machine
end

section
/-! One entry, followed part by part: which block writes a part of the state, and what an entry makes of the link's
watch counts, of the history ring and of the monitor's counts, in every order of the blocks (R16). -/

namespace Sys2Proof.Machine

/-! ## Following one part of the state through an entry (R16) -/

/-- What holds before the blocks, each of them keeps with one block less to come, and a watch report keeps, holds when
all of them have acted. -/
theorem EntryPasses.stages {e : Entry} {good : Option Metrics} {v : EntryValues}
    {J : List EntryBlock → State → Prop}
    (acts : ∀ b bs x y, J (b :: bs) x → EntryActs e good v x y b → J bs y)
    (reports : ∀ bs x, J bs x → J bs x.assembleReports) :
    ∀ bs x t, EntryPasses e good v bs x t → J bs x → J [] t := by
  intro bs
  induction bs with
  | nil => rintro x t rfl hx; exact hx
  | cons b bs ih =>
    rintro x t ⟨y, z, hact, hrest, hz⟩ hx
    have hy := acts b bs x y hx hact
    refine ih z t hrest ?_
    rcases hz with rfl | ⟨rfl, -⟩ <;> [exact hy; exact reports bs y hy]

/-- A part of the state that one block alone writes, and neither a watch report nor the beginning of an entry. -/
structure WrittenBy {α : Type} (f : State → α) (b : EntryBlock) : Prop where
  acts  : ∀ e good v c x y, c ≠ b → EntryActs e good v x y c → f y = f x
  outer : ∀ (s : State) (h : HostLink) (l : RequestLane) (n : Nat),
    f { s with host := h, hop := { s.hop with lane := l }, freeCount := n } = f s

section
variable {α : Type} {f : State → α} {b : EntryBlock} {e : Entry} {good : Option Metrics} {v : EntryValues}

theorem WrittenBy.reports (w : WrittenBy f b) (s : State) : f s.assembleReports = f s := by
  rw [State.assembleReports_eq]
  exact w.outer s s.assembleReports.host s.hop.lane s.freeCount

/-- A block acts, and a watch report may come after it: a part that another block writes stands. -/
theorem WrittenBy.stands (w : WrittenBy f b) {c : EntryBlock} {x y z : State} (hc : c ≠ b)
    (h : EntryActs e good v x y c) (hz : z = y ∨ z = y.assembleReports) : f z = f x := by
  rw [← w.acts e good v c x y hc h]
  rcases hz with rfl | rfl <;> [rfl; exact w.reports y]

/-- Without its block among them, the blocks leave the part alone. -/
theorem EntryPasses.keeps (w : WrittenBy f b) (bs : List EntryBlock) :
    ∀ x t, b ∉ bs → EntryPasses e good v bs x t → f t = f x := by
  induction bs with
  | nil => rintro x t - rfl; rfl
  | cons c bs ih =>
    rintro x t hb ⟨y, z, hact, hrest, hz⟩
    obtain ⟨hc, hbs⟩ := List.ne_and_not_mem_of_not_mem_cons hb
    exact (ih z t hbs hrest).trans (w.stands hc.symm hact (hz.imp id And.left))

/-- The part is written once, by its block; it stands before and after. -/
theorem EntryPasses.once (w : WrittenBy f b) (bs : List EntryBlock) :
    ∀ x t, bs.Nodup → b ∈ bs → EntryPasses e good v bs x t →
      ∃ y z, f y = f x ∧ EntryActs e good v y z b ∧ f t = f z := by
  induction bs with
  | nil => rintro x t - hb; cases hb
  | cons c bs ih =>
    rintro x t hn hb ⟨y, z, hact, hrest, hz⟩
    obtain ⟨hc, hbs⟩ := List.nodup_cons.1 hn
    by_cases hcb : c = b
    · subst hcb
      refine ⟨x, y, rfl, hact, (keeps w bs z t hc hrest).trans ?_⟩
      rcases hz with rfl | ⟨rfl, -⟩ <;> [rfl; exact w.reports y]
    · obtain ⟨y', z', hy', hact', ht⟩ := ih z t hbs ((List.mem_cons.1 hb).resolve_left (Ne.symm hcb)) hrest
      exact ⟨y', z', hy'.trans (w.stands hcb hact (hz.imp id And.left)), hact', ht⟩

end

/-- All ten blocks handle an entry, from a state that differs from `s` as an entry begins. -/
theorem State.Handles.passes {s t : State} {e : Entry} (h : s.Handles e t) :
    ∃ host lane n good v order, e.Shows s.settings.divMode good ∧ order.Perm defaultEntryOrder ∧
      EntryPasses e good v order
        { s with host := host, hop := { s.hop with lane := lane }, freeCount := n } t := by
  obtain ⟨s', good, v, order, h1, h2, hshow, hperm, -, hpass⟩ := h
  have hs' : ∃ host, s' = { s with host := host } := by
    by_cases hw : s.EntryReportWaits
    · exact ⟨_, (h1 hw).trans s.assembleReports_eq⟩
    · exact ⟨_, h2 hw⟩
  obtain ⟨host, rfl⟩ := hs'
  exact ⟨_, _, _, good, v, order, hshow, hperm, hpass⟩

theorem defaultEntryOrder_mem (b : EntryBlock) : b ∈ defaultEntryOrder := by cases b <;> decide

theorem entryOrder_nodup {order : List EntryBlock} (h : order.Perm defaultEntryOrder) : order.Nodup :=
  h.nodup_iff.2 (by decide)

/-- The values that the blocks read of an entry are those that the Estimator handed on. -/
theorem EntryPasses.values {e : Entry} {good : Option Metrics} {v : EntryValues} {order : List EntryBlock} {x t : State}
    (h : EntryPasses e good v order x t) (ho : order.Perm defaultEntryOrder) : ∃ y : State, v = (y.estimate e).2 := by
  obtain ⟨y, z, -, hact, -⟩ := EntryPasses.once (f := fun _ => ()) (b := .estimator) ⟨fun _ _ _ _ _ _ _ _ => rfl,
    fun _ _ _ _ => rfl⟩ order x t (entryOrder_nodup ho) (ho.mem_iff.2 (defaultEntryOrder_mem _)) h
  exact ⟨y, congrArg Prod.snd (show y.estimate e = (z, v) from hact).symm⟩

/-! ## The history entry of an entry -/

/-- What a history entry bears of the entry it is made from (R26, R33). -/
structure HistoryEntry.Bears (x : HistoryEntry) (e : Entry) : Prop where
  frame   : x.frame = e.frame
  resumed : x.resumed = e.resumed
  held    : e.record = none → x.held = true

theorem blankEntry_bears (e : Entry) (mode : DivMode) (shown : Bool) : (blankEntry e mode shown).Bears e :=
  ⟨rfl, rfl, fun h => by simp [blankEntry, Entry.held, h]⟩

theorem heldEntry_bears {e : Entry} (blank : HistoryEntry) (ring : List HistoryEntry) (h : blank.Bears e) :
    (heldEntry blank ring).Bears e := by
  cases ring <;> exact ⟨h.frame, h.resumed, h.held⟩

/-- R32, R33: an entry appends its history entry to the ring. -/
theorem State.estimate_ring (s : State) (e : Entry) : (s.estimate e).2.history.Bears e ∧
    (s.estimate e).1.est.ring = appendHistory (s.estimate e).2.history s.est.ring := by
  simp only [State.estimate, State.raiseIf_est]
  have hb := blankEntry_bears e s.settings.divMode (s.fade.flagShown s.freeCount)
  cases hh : e.held s.settings.divMode with
  | true => rw [s.est.handle_held e _ _ _ hh]; exact ⟨heldEntry_bears _ _ hb, rfl⟩
  | false =>
    obtain ⟨m, hm⟩ := e.record_of_not_held _ hh
    rw [s.est.handle_nonHeld e _ _ _ m hm hh]
    exact ⟨⟨hb.frame, hb.resumed, hb.held⟩, rfl⟩

/-! ## The link at an entry (R144, R145) -/

/-- R144, R145: an entry whose good header is `good`, if it has one, ends RUN. -/
def LinkControl.Loses (l : LinkControl) (good : Option Metrics) : Prop :=
  l.state = .run ∧ (16 ≤ nextFarWatch good l.farWatch ∨ 64 ≤ nextMissing good l.missing)

/-- What an entry that ends RUN makes of the Estimator, and what any other leaves alone (R36, R146). -/
theorem State.linkEntry_est (s : State) (good : Option Metrics) :
    (s.link.Loses good ∧ (s.linkEntry good).est = s.est.enterSync) ∨ (s.linkEntry good).est = s.est := by
  unfold State.linkEntry
  split
  · split <;> exact .inr rfl
  · split <;> exact .inr (by simp)
  · next hrun =>
    unfold State.watchLink
    dsimp only
    split
    · next h => exact .inl ⟨⟨hrun, h⟩, by simp [State.linkLoss, State.enterSync]⟩
    · exact .inr rfl
  all_goals exact .inr rfl

/-- R144, R145: an entry in RUN that does not end it moves the watch counts alone. -/
theorem State.linkEntry_stays (s : State) (good : Option Metrics) (hrun : s.link.state = .run)
    (h : ¬ s.link.Loses good) : s.linkEntry good = { s with link := { s.link with
      farWatch := nextFarWatch good s.link.farWatch, missing := nextMissing good s.link.missing } } := by
  have hc : ¬ (16 ≤ nextFarWatch good s.link.farWatch ∨ 64 ≤ nextMissing good s.link.missing) :=
    fun hc => h ⟨hrun, hc⟩
  have key : s.linkEntry good = s.watchLink good := by cases good <;> simp [State.linkEntry, hrun]
  exact key.trans (if_neg hc)

/-- R144, R145: an entry without a good header, at the link's watches. -/
theorem State.linkEntry_none (s : State) (h : ¬ s.link.Loses none) : (s.linkEntry none).link =
    if s.link.state = .run then { s.link with missing := s.link.missing + 1 } else s.link := by
  split
  · rw [s.linkEntry_stays none ‹_› h]; rfl
  · unfold State.linkEntry
    split <;> simp_all

/-- R17, R160: an entry without a record has no good header. -/
theorem Entry.Shows.eq_none {e : Entry} {mode : DivMode} {good : Option Metrics} (h : e.Shows mode good)
    (he : e.record = none) : good = none :=
  Option.eq_none_iff_forall_ne_some.2 fun m hm => by simpa [he] using ((h m).1 hm).1

theorem link_writtenBy : WrittenBy State.link .linkState where
  acts e good v c x y hc h := by
    cases c
    case estimator => obtain rfl : (x.estimate e).1 = y := congrArg Prod.fst h; simp
    case linkState => exact absurd rfl hc
    all_goals cases h; simp
  outer _ _ _ _ := rfl

/-- R144, R145: an entry without a good header, at the link's watches. -/
theorem State.Handles.link_held {s t : State} {e : Entry} (h : s.Handles e t) (he : e.record = none)
    (hl : ¬ s.link.Loses none) : t.link =
      if s.link.state = .run then { s.link with missing := s.link.missing + 1 } else s.link := by
  obtain ⟨host, lane, n, good, v, order, hshow, ho, hp⟩ := h.passes
  have hg : good = none := hshow.eq_none he
  obtain ⟨y, z, hy, hact, ht⟩ := hp.once link_writtenBy order _ _ (entryOrder_nodup ho)
    (ho.mem_iff.2 (defaultEntryOrder_mem _))
  have hy' : y.link = s.link := hy
  subst hg
  rw [ht, show z = y.linkEntry none from hact, y.linkEntry_none (hy' ▸ hl), hy']

/-! ## The ring at an entry (R32) -/

/-- The ring part of the way through an entry, with the blocks `bs` still to act: as it was, or with the entry's history
entry in front; and empty but for that entry where the entry ends RUN. -/
def RingSoFar (l : LinkControl) (ring : List HistoryEntry) (e : Entry) (good : Option Metrics)
    (bs : List EntryBlock) (x : State) : Prop :=
  bs.Nodup ∧ (EntryBlock.linkState ∈ bs → x.link = l) ∧
    if EntryBlock.estimator ∈ bs then x.est.ring = ring ∨ l.Loses good ∧ x.est.ring = []
    else ∃ h : HistoryEntry, h.Bears e ∧
      (x.est.ring = appendHistory h ring ∨ l.Loses good ∧ (x.est.ring = [h] ∨ x.est.ring = []))

section
variable {l : LinkControl} {ring : List HistoryEntry} {e : Entry} {good : Option Metrics}

/-- A block that leaves the ring and the link alone. -/
theorem RingSoFar.same {b : EntryBlock} {bs : List EntryBlock} {x y : State} (h : RingSoFar l ring e good (b :: bs) x)
    (hb : b ≠ .estimator ∧ b ≠ .linkState) (hring : y.est.ring = x.est.ring) (hlink : y.link = x.link) :
    RingSoFar l ring e good bs y := by
  obtain ⟨hn, hl, hr⟩ := h
  refine ⟨hn.of_cons, fun hm => hlink.trans (hl (by simp [hm])), ?_⟩
  simpa [hb.1.symm, hring] using hr

theorem RingSoFar.estimator {v : EntryValues} {bs : List EntryBlock} {x y : State}
    (h : RingSoFar l ring e good (.estimator :: bs) x) (hact : x.estimate e = (y, v)) :
    RingSoFar l ring e good bs y := by
  obtain ⟨hn, hl, hr⟩ := h
  obtain rfl : (x.estimate e).1 = y := congrArg Prod.fst hact
  obtain ⟨hbears, happ⟩ := x.estimate_ring e
  rw [if_pos (by simp)] at hr
  refine ⟨hn.of_cons, fun hm => by simpa using hl (by simp [hm]), ?_⟩
  rw [if_neg (List.nodup_cons.1 hn).1]
  refine ⟨_, hbears, ?_⟩
  rw [happ]
  rcases hr with hr | ⟨hlose, hr⟩ <;> rw [hr] <;> [exact .inl rfl; exact .inr ⟨hlose, .inl rfl⟩]

theorem RingSoFar.linkState {bs : List EntryBlock} {x : State} (h : RingSoFar l ring e good (.linkState :: bs) x) :
    RingSoFar l ring e good bs (x.linkEntry good) := by
  obtain ⟨hn, hl, hr⟩ := h
  have hx : x.link = l := hl (by simp)
  refine ⟨hn.of_cons, fun hm => absurd hm (List.nodup_cons.1 hn).1, ?_⟩
  simp only [List.mem_cons, reduceCtorEq, false_or] at hr
  rcases x.linkEntry_est good with ⟨hlose, hest⟩ | hest
  · rw [hx] at hlose
    have hempty : (x.linkEntry good).est.ring = [] := by rw [hest]; rfl
    split at hr
    · rw [if_pos ‹_›]; exact .inr ⟨hlose, hempty⟩
    · rw [if_neg ‹_›]
      obtain ⟨h, hb, -⟩ := hr
      exact ⟨h, hb, .inr ⟨hlose, .inr hempty⟩⟩
  · simpa only [hest] using hr

theorem RingSoFar.acts {v : EntryValues} (b : EntryBlock) (bs : List EntryBlock) (x y : State)
    (h : RingSoFar l ring e good (b :: bs) x) (hact : EntryActs e good v x y b) : RingSoFar l ring e good bs y := by
  cases b
  case estimator => exact h.estimator hact
  case linkState => cases hact; exact h.linkState
  all_goals cases hact; exact h.same ⟨nofun, nofun⟩ (by simp) (by simp)

end

/-- R32: an entry is appended to the ring; where it ends RUN, the ring is emptied before or after that. -/
theorem State.Handles.ring {s t : State} {e : Entry} (h : s.Handles e t) :
    ∃ (good : Option Metrics) (x : HistoryEntry), e.Shows s.settings.divMode good ∧ x.Bears e ∧
      (t.est.ring = appendHistory x s.est.ring ∨ s.link.Loses good ∧ (t.est.ring = [x] ∨ t.est.ring = [])) := by
  obtain ⟨host, lane, n, good, v, order, hshow, ho, hp⟩ := h.passes
  have hmem := fun b => ho.mem_iff.2 (defaultEntryOrder_mem b)
  obtain ⟨-, -, hr⟩ := EntryPasses.stages (J := RingSoFar s.link s.est.ring e good) RingSoFar.acts
    (fun bs x hx => by simpa [RingSoFar] using hx) order _ t
    hp ⟨entryOrder_nodup ho, fun _ => rfl, by rw [if_pos (hmem _)]; exact .inl rfl⟩
  rw [if_neg (by simp)] at hr
  obtain ⟨x, hb, hx⟩ := hr
  exact ⟨good, x, hshow, hb, hx⟩

/-- R32: an entry that does not end RUN is the newest of the ring. -/
theorem State.Handles.ring_newest {s t : State} {e : Entry} (h : s.Handles e t)
    (hl : ∀ good, e.Shows s.settings.divMode good → ¬ s.link.Loses good) :
    ∃ x : HistoryEntry, x.Bears e ∧ t.est.ring = (x :: s.est.ring).take 512 := by
  obtain ⟨good, x, hshow, hb, hr⟩ := h.ring
  exact ⟨x, hb, hr.resolve_right fun hr => hl good hshow hr.1⟩

/-- The watch counts stand so far short of link loss that `k` entries, only the last of them with a good header, do not
end RUN. -/
def LinkControl.Spare (l : LinkControl) (k : Nat) : Prop :=
  l.state = .run → l.missing + k < 64 ∧ l.farWatch + 1 < 16

theorem LinkControl.Spare.not_loses {l : LinkControl} {k : Nat} (h : l.Spare (k + 1)) (good : Option Metrics) :
    ¬ l.Loses good := by
  rintro ⟨hrun, hc⟩
  have := h hrun
  have hfar : nextFarWatch good l.farWatch ≤ l.farWatch + 1 := by
    unfold nextFarWatch; (repeat' split) <;> omega
  have hmiss : nextMissing good l.missing ≤ l.missing + 1 := by unfold nextMissing; split <;> omega
  omega

/-! ## The monitor's counts at an entry (R164) -/

/-- The counts of the second in progress are the monitor's alone to move at an entry. -/
def State.counts (s : State) : Nat × Nat := (s.monitor.t, s.monitor.h)

theorem State.fadeClearEntry_counts (s : State) (x : FadeInput) : (s.fadeClearEntry x).counts = s.counts := by
  unfold State.fadeClearEntry
  dsimp only
  split <;> [(split <;> simp [State.counts, State.openFade]); rfl]

theorem State.trackFade_counts (s : State) (v : EntryValues) : (s.trackFade v).counts = s.counts := by
  unfold State.trackFade
  (repeat' split) <;> [exact State.fadeClearEntry_counts _ _; simp [State.counts]; rfl]

theorem State.signal_counts (s : State) (good : Option Metrics) : (s.signal good).counts = s.counts := by
  simp only [State.counts, State.signal, State.answerGood_frame, State.advanceInRun_frame, State.examineGood_frame]
  unfold State.followGood State.followHeader
  (repeat' split) <;> simp [State.changeR]

theorem State.linkEntry_counts (s : State) (good : Option Metrics) : (s.linkEntry good).counts = s.counts := by
  unfold State.linkEntry State.watchLink
  dsimp only
  (repeat' split) <;> simp [State.counts, State.linkLoss, State.enterSync]

theorem monitor_writtenBy : WrittenBy State.counts .monitor where
  acts e good v c x y hc h := by
    cases c
    case estimator => obtain rfl : (x.estimate e).1 = y := congrArg Prod.fst h; simp [State.counts]
    case monitor => exact absurd rfl hc
    case fadeTracker => cases h; exact x.trackFade_counts v
    case hopSignalling => cases h; exact x.signal_counts good
    case linkState => cases h; exact x.linkEntry_counts good
    all_goals cases h; simp [State.counts]
  outer _ _ _ _ := rfl

/-- R164: an entry is counted, and counted as held where it is. -/
theorem State.Handles.monitor {s t : State} {e : Entry} (h : s.Handles e t) :
    t.monitor.t = min 65535 (s.monitor.t + 1) ∧
      (e.record = none → t.monitor.h = min 65535 (s.monitor.h + 1)) := by
  obtain ⟨host, lane, n, good, v, order, hshow, ho, hp⟩ := h.passes
  obtain ⟨y, z, hy, hact, ht⟩ := hp.once monitor_writtenBy order _ _ (entryOrder_nodup ho)
    (ho.mem_iff.2 (defaultEntryOrder_mem _))
  obtain ⟨w, hw⟩ := hp.values ho
  obtain rfl : z = y.monitorEntry v := hact
  simp only [State.counts, Prod.mk.injEq] at hy ht
  rw [ht.1, ht.2]
  refine ⟨by simp [State.monitorEntry, saturate, hy.1], fun he => ?_⟩
  have hheld : v.history.held = true := by rw [hw]; exact (w.estimate_ring e).1.held he
  simp [State.monitorEntry, saturate, hy.2, hheld]

end Sys2Proof.Machine
end

section
/-! The laws of the Estimator and of the ring's frame numbers, kept by every step (R23, R25, R27, R30, R32, R33). -/

namespace Sys2Proof.Machine

/-! ## The Estimator's ranges: every step keeps them -/

theorem Estimator.Lawful.enterSync {est : Estimator} (h : est.Lawful) : est.enterSync.Lawful :=
  ⟨h.main, h.space, by rintro v ⟨⟩, Nat.zero_le _, Nat.zero_le _, List.forall_mem_nil _⟩

theorem Estimator.initial_lawful : Estimator.initial.Lawful :=
  ⟨by decide, by decide, by rintro v ⟨⟩, by decide, by decide, List.forall_mem_nil _⟩

theorem estimatorLawful_entryLaw : EntryLaw (fun s => s.est.Lawful) Entry.InRange where
  outer _ _ _ _ h := h
  clearFresh _ h := h
  estimate _ e he h := h.handle e he _ _ _
  trackFade _ _ h := by simpa using h
  runDecision _ _ h := by simpa using h
  signal _ _ h := by simpa using h
  powerReceive _ _ h := by simpa using h
  powerTransmit _ _ h := by simpa using h
  monitorEntry _ _ h := h
  takeFarMask _ _ h := by simpa using h
  swapAtEntry _ h := by simpa using h
  linkEntry s good h := by
    rcases s.linkEntry_est good with ⟨-, hest⟩ | hest <;> rw [hest] <;> [exact h.enterSync; exact h]

theorem State.linkLoss_est (s : State) : s.linkLoss.est = s.est.enterSync := by
  simp [State.linkLoss, State.enterSync]

theorem State.searchReached_est (s : State) :
    s.searchReached.est = s.est ∨ s.searchReached.est = s.est.enterSync := by
  unfold State.searchReached
  split <;> [exact .inr s.linkLoss_est; exact .inr rfl; exact .inl rfl; exact .inl rfl]

theorem estimatorLawful_stepLaw : StepLaw (fun s => s.est.Lawful) where
  toEntryLaw := estimatorLawful_entryLaw
  commands _ _ h := h
  intake _ _ _ _ _ h := h
  silence _ _ _ h := h
  lock _ _ _ _ _ h := h
  enterResync _ _ h := ⟨h.main, h.space, h.s16, h.hold, h.ring, h.each⟩
  enterSearch s _ h := by
    unfold State.enterSearch
    rcases State.searchReached_est _ with hest | hest <;> rw [hest] <;> [exact h; exact h.enterSync]
  trySwap _ h := by simpa using h
  fixEcho _ _ h := h
  slotSwitches _ _ h := by simpa using h
  slotFinish _ _ _ _ h := by simpa using h
  slotIdle _ _ _ _ h := by simpa using h
  reply _ _ _ h := h
  setValue _ _ _ h := by simpa using h
  writeShadow _ _ _ h := h
  acceptSwap _ _ h := h
  installSwap _ _ _ h := h
  startLink _ _ h := h.enterSync
  stopLink _ _ h := by simpa using h
  setForce _ _ h := h
  addPilot _ h := h
  readFades _ _ h := h
  dropSwap _ h := h
  expireAnswer _ _ h := by simpa using h
  missSwitch _ _ h := h
  endBackoff _ _ h := h
  expireAcq _ _ h := h.enterSync
  acqTimer _ _ _ h := h
  expirePilot _ h := h
  endSecond _ h := h
  millis _ _ h := h
  holdReset _ _ h := ⟨by simp [State.holdReset], by simp [State.holdReset], h.s16, h.hold, h.ring, h.each⟩
  restartNow _ _ h := h.enterSync
  powerOn _ _ _ _ := Estimator.initial_lawful
  release _ _ _ _ _ _ := Estimator.initial_lawful

/-! ## The frame numbers of the ring (R32) -/

theorem continuous_cons (x : HistoryEntry) (ring : List HistoryEntry) : continuous (x :: ring) ↔
    (∀ y, ring.head? = some y → x.resumed = true ∨ x.frame = y.frame + 1#16) ∧ continuous ring := by
  cases ring <;> simp [continuous]

theorem continuous_take (ring : List HistoryEntry) : ∀ n, continuous ring → continuous (ring.take n) := by
  induction ring with
  | nil => simp
  | cons x ring ih =>
    rintro (_ | n) h
    · trivial
    · obtain ⟨hx, hr⟩ := (continuous_cons x ring).1 h
      refine (continuous_cons x _).2 ⟨fun y hy => hx y ?_, ih n hr⟩
      cases n <;> cases ring <;> simp_all

/-- The ring is continuous, and the number `n` follows its newest entry. -/
def State.Follows (s : State) (n : FrameNo) : Prop :=
  continuous s.est.ring ∧ ∀ x, s.est.ring.head? = some x → n = x.frame + 1#16

/-- R32: an entry, resumed or with the number that follows, leaves the ring continuous and the next number following. -/
theorem State.Handles.follows {s t : State} {e : Entry} (h : s.Handles e t) (hs : continuous s.est.ring)
    (he : e.resumed = true ∨ s.Follows e.frame) : t.Follows (e.frame + 1#16) := by
  obtain ⟨good, x, -, hb, hr⟩ := h.ring
  have newest : ∀ ring : List HistoryEntry, continuous (x :: ring) → t.est.ring = (x :: ring).take 512 →
      t.Follows (e.frame + 1#16) := by
    intro ring hc ht
    refine ⟨ht ▸ continuous_take _ _ hc, fun y hy => ?_⟩
    rw [ht] at hy
    obtain rfl : x = y := by simpa using hy
    rw [hb.frame]
  rcases hr with ht | ⟨-, ht | ht⟩
  · refine newest s.est.ring ((continuous_cons _ _).2 ⟨fun y hy => ?_, hs⟩) ht
    rw [hb.resumed, hb.frame]
    exact he.imp id fun he => he.2 y hy
  · exact newest [] trivial ht
  · exact ⟨by rw [ht]; trivial, by simp [ht]⟩

/-- R154: held frames numbered from the one that follows. -/
theorem State.HandlesHeld.follows (k : Nat) :
    ∀ (n : FrameNo) (s t : State), State.HandlesHeld k n s t → s.Follows n → t.Follows (n + BitVec.ofNat 16 k) := by
  induction k with
  | zero => rintro n s t rfl hs; simpa using hs
  | succ k ih =>
    rintro n s t ⟨u, hu, ht⟩ hs
    have := ih (n + 1#16) u t ht (hu.follows hs.1 (.inr hs))
    rwa [BitVec.add_assoc, show 1#16 + BitVec.ofNat 16 k = BitVec.ofNat 16 (k + 1) by
      rw [← BitVec.ofNat_add, Nat.add_comm]] at this

theorem State.FrameLaw.follows {s : State} (h : s.FrameLaw) (hi : s.intake.state = .locked) :
    s.Follows s.intake.expected :=
  ⟨h.ring, h.expected hi⟩

/-- The law where the number that follows is the one expected. -/
theorem State.Follows.frameLaw {s : State} {n : FrameNo} (h : s.Follows n) (hn : s.intake.expected = n) : s.FrameLaw :=
  ⟨h.1, fun _ x hx => hn.trans (h.2 x hx)⟩

/-- The law outside LOCKED. -/
theorem State.FrameLaw.unlocked {s : State} (h : continuous s.est.ring) (hi : s.intake.state ≠ .locked) :
    s.FrameLaw :=
  ⟨h, fun hc => absurd hc hi⟩

/-! ### The records that make entries (R153 to R157) -/

theorem State.handleEntry_intake (s : State) (e : Entry) : (s.handleEntry e).intake = s.intake := by
  obtain ⟨-, h, -⟩ := s.handleEntry_frame e
  exact h

theorem State.deliver_intake (s : State) (m : Metrics) (resumed valid : Bool) :
    (s.deliver m resumed valid).intake = s.intake :=
  State.handleEntry_intake _ _

theorem State.deliverHeld_intake (k : Nat) : ∀ (s : State) (n : FrameNo), (s.deliverHeld n k).intake = s.intake := by
  induction k with
  | zero => exact fun _ _ => rfl
  | succ k ih => exact fun s n => (ih _ _).trans (State.handleEntry_intake _ _)

theorem State.deliver_follows (s : State) (m : Metrics) (resumed valid : Bool) (hs : continuous s.est.ring)
    (hm : resumed = true ∨ s.Follows m.frame) : (s.deliver m resumed valid).Follows (m.frame + 1#16) :=
  (State.handleEntry_handles (s.raiseIf _ _) _).follows hs hm

theorem State.lock_frameLaw (s : State) (m : Metrics) (hs : continuous s.est.ring) : (s.lock m).FrameLaw := by
  unfold State.lock
  dsimp only
  refine State.Follows.frameLaw (State.deliver_follows _ m true _ ?_ (.inl rfl)) ?_
  · exact hs
  · rw [State.deliver_intake]

theorem State.searchRecord_frameLaw (s : State) (good : Bool) (m : Metrics) (hs : continuous s.est.ring)
    (hi : s.intake.state = .search) : (s.searchRecord good m).FrameLaw := by
  have unlocked (i : Intake) (h : i.state = s.intake.state) : { s with intake := i }.FrameLaw :=
    .unlocked hs (by simp [h, hi])
  unfold State.searchRecord
  split <;> [(split <;> [exact s.lock_frameLaw m hs; exact unlocked _ rfl]); exact unlocked _ rfl]

theorem State.lockedGood_frameLaw (s : State) (m : Metrics) (h : s.FrameLaw) (hi : s.intake.state = .locked) :
    (s.lockedGood m).FrameLaw := by
  unfold State.lockedGood
  dsimp only
  split
  · have hheld := State.HandlesHeld.follows _ _ _ _ (State.deliverHeld_handles (m.frame - s.intake.expected).toNat
      { s with intake := { s.intake with badCount := 0, expected := m.frame + 1#16 } } s.intake.expected) (h.follows hi)
    have hnext : s.intake.expected + BitVec.ofNat 16 (m.frame - s.intake.expected).toNat = m.frame := by
      rw [BitVec.ofNat_toNat, BitVec.setWidth_eq]
      bv_omega
    rw [hnext] at hheld
    refine (State.deliver_follows _ m false _ hheld.1 (.inr hheld)).frameLaw ?_
    rw [State.deliver_intake, State.deliverHeld_intake]
  · split <;> [exact ⟨h.ring, h.expected⟩; exact .unlocked h.ring (by simp [State.enterResync])]

theorem State.lockedBad_frameLaw (s : State) (h : s.FrameLaw) (hi : s.intake.state = .locked) :
    s.lockedBad.FrameLaw := by
  unfold State.lockedBad
  split
  · refine State.Follows.frameLaw ((State.handleEntry_handles _ _).follows ?_ (.inr ?_)) ?_
    · exact h.ring
    · exact h.follows hi
    · rw [State.handleEntry_intake]
      rfl
  · exact .unlocked h.ring (by simp [State.enterResync])

theorem State.enterSearch_frameLaw (s : State) (hs : continuous s.est.ring) : s.enterSearch.FrameLaw := by
  unfold State.enterSearch
  refine .unlocked ?_ (by simp)
  rcases State.searchReached_est _ with hest | hest <;> rw [hest] <;> [exact hs; trivial]

theorem State.resyncRecord_frameLaw (s : State) (good : Bool) (m : Metrics) (hs : continuous s.est.ring)
    (hi : s.intake.state = .resync) : (s.resyncRecord good m).FrameLaw := by
  unfold State.resyncRecord
  dsimp only
  split
  · exact State.lock_frameLaw _ m hs
  · split
    · exact State.enterSearch_frameLaw _ hs
    · refine .unlocked hs ?_
      unfold Intake.resyncRun
      split <;> simp [Intake.takeRun, hi]

theorem State.takeMetrics_frameLaw (s : State) (bs : List Byte) (h : s.FrameLaw) : (s.takeMetrics bs).FrameLaw := by
  have hload : s.loadSilence.FrameLaw := ⟨h.ring, h.expected⟩
  unfold State.takeMetrics
  dsimp only
  split
  case h_1 => exact h
  case h_2 hi => exact State.searchRecord_frameLaw _ _ _ h.ring hi
  case h_3 hi =>
    split
    · exact State.lockedGood_frameLaw _ _ hload hi
    · exact State.lockedBad_frameLaw _ hload hi
  case h_4 hi => exact State.resyncRecord_frameLaw _ _ _ h.ring hi

/-! ### What every other command leaves of it -/

/-- The ring stands or is emptied, and an intake that is LOCKED was so before, expecting the same number. -/
structure State.KeepsFrames (s t : State) : Prop where
  ring   : t.est.ring = s.est.ring ∨ t.est.ring = []
  locked : t.intake.state = .locked → s.intake.state = .locked ∧ t.intake.expected = s.intake.expected

theorem State.KeepsFrames.frameLaw {s t : State} (h : s.KeepsFrames t) (hs : s.FrameLaw) : t.FrameLaw := by
  obtain ⟨hr, hl⟩ := h
  rcases hr with hr | hr
  · refine ⟨hr ▸ hs.ring, fun hi x hx => ?_⟩
    obtain ⟨hi', he⟩ := hl hi
    exact he.trans (hs.expected hi' x (hr ▸ hx))
  · exact ⟨by rw [hr]; trivial, fun _ x hx => by simp [hr] at hx⟩

theorem State.KeepsFrames.trans {s t u : State} (h1 : s.KeepsFrames t) (h2 : t.KeepsFrames u) : s.KeepsFrames u where
  ring := h2.ring.elim (fun h => h ▸ h1.ring) .inr
  locked h := by
    obtain ⟨ht, he⟩ := h2.locked h
    obtain ⟨hs, he'⟩ := h1.locked ht
    exact ⟨hs, he.trans he'⟩

/-- An operation that leaves the ring, the intake's state and the expected number alone. -/
theorem State.KeepsFrames.same {s t : State} (hr : t.est = s.est) (hi : t.intake.state = s.intake.state)
    (he : t.intake.expected = s.intake.expected) : s.KeepsFrames t :=
  ⟨.inl (congrArg Estimator.ring hr), fun h => ⟨hi ▸ h, he⟩⟩

/-- An operation that leaves the Estimator and the intake alone. -/
theorem State.KeepsFrames.apart {s t : State} (hr : t.est = s.est) (hi : t.intake = s.intake) : s.KeepsFrames t :=
  .same hr (hi ▸ rfl) (hi ▸ rfl)

theorem State.KeepsFrames.refl (s : State) : s.KeepsFrames s := .apart rfl rfl

/-- An operation that leaves the intake outside LOCKED. -/
theorem State.KeepsFrames.unlocked {s t : State} (hr : t.est.ring = s.est.ring ∨ t.est.ring = [])
    (hi : t.intake.state ≠ .locked) : s.KeepsFrames t :=
  ⟨hr, fun h => absurd h hi⟩

/-- An operation that empties the ring and leaves the intake alone. -/
theorem State.KeepsFrames.emptied {s t : State} (hr : t.est.ring = []) (hi : t.intake = s.intake) : s.KeepsFrames t :=
  ⟨.inr hr, fun h => by rw [hi] at h ⊢; exact ⟨h, rfl⟩⟩

theorem State.KeepsFrames.unlessHeld {s : State} {f : State → State} (h : s.KeepsFrames (f s)) :
    s.KeepsFrames (s.unlessHeld f) := by
  unfold State.unlessHeld
  split <;> [exact .refl s; exact h]

theorem State.KeepsFrames.answer {s : State} (m : Message) {f : State → Served}
    (h : s.dropRequest.KeepsFrames (f s.dropRequest).state) : s.KeepsFrames (s.answer m f) :=
  .trans (t := s.dropRequest) (.apart rfl rfl) (.trans h (.apart rfl rfl))

theorem State.KeepsFrames.take {s : State} {kind : Byte} {len : Nat} {f : List Byte → State → Served}
    (h : ∀ p t, State.KeepsFrames t (f p t).state) : s.KeepsFrames (s.take kind len f) := by
  unfold State.take
  split
  · exact .refl s
  · split
    · refine .answer _ ?_
      split <;> [exact h _ _; exact .refl _]
    · exact .refl s

theorem State.startLink_keepsFrames (s : State) : s.KeepsFrames s.startLink :=
  .unlocked (.inr rfl) (by simp [State.startLink, State.loadAcqTimer, Intake.set])

theorem State.stopLink_keepsFrames (s : State) : s.KeepsFrames s.stopLink := by
  refine .unlocked (.inl (by simp)) ?_
  unfold State.stopLink
  split <;> simp [State.stopCommon, Intake.set]

theorem State.expireAcqTimer_keepsFrames (s : State) : s.KeepsFrames s.expireAcqTimer :=
  .emptied rfl (by simp)

theorem State.restartNow_keepsFrames (s : State) : s.KeepsFrames s.restartNow :=
  .unlocked (.inr rfl) (by simp [State.restartNow, Intake.set])

theorem State.expireSilence_keepsFrames (s : State) : s.KeepsFrames s.expireSilence := by
  unfold State.expireSilence
  split
  case h_1 => exact .refl s
  case h_2 => exact .same rfl rfl rfl
  case h_3 => exact .unlocked (.inl rfl) (by simp [State.enterResync])
  case h_4 =>
    unfold State.enterSearch
    refine .unlocked ?_ (by simp)
    rcases State.searchReached_est _ with hest | hest <;> rw [hest] <;> [exact .inl rfl; exact .inr rfl]

@[simp] theorem State.send_frames (s : State) (d : Descriptor) :
    (s.send d).intake.state = s.intake.state ∧ (s.send d).intake.expected = s.intake.expected := ⟨rfl, rfl⟩

@[simp] theorem State.slotFinish_frames (s : State) (echo : FrameNo) (l : Bool) :
    (s.slotFinish echo l).intake.state = s.intake.state ∧
      (s.slotFinish echo l).intake.expected = s.intake.expected := by
  simp [State.slotFinish]

@[simp] theorem State.slotIdle_frames (s : State) (echo : FrameNo) (l : Bool) :
    (s.slotIdle echo l).intake.state = s.intake.state ∧
      (s.slotIdle echo l).intake.expected = s.intake.expected := by
  simp [State.slotIdle]

/-- R107: a slot leaves the intake's state and the expected number alone. -/
theorem State.slotEvent_frames (s : State) (x : SlotRecord) (l : Bool) :
    (s.slotEvent x l).intake.state = s.intake.state ∧
      (s.slotEvent x l).intake.expected = s.intake.expected := by
  unfold State.slotEvent
  dsimp only
  split <;> simp

theorem State.slotEvent_keepsFrames (s : State) (x : SlotRecord) (l : Bool) : s.KeepsFrames (s.slotEvent x l) := by
  obtain ⟨hstate, hexpected⟩ := s.slotEvent_frames x l
  exact .same (by simp) hstate hexpected

theorem State.takeSlot_keepsFrames (s : State) (bs : List Byte) (l : Bool) : s.KeepsFrames (s.takeSlot bs l) := by
  unfold State.takeSlot
  split <;> [exact s.slotEvent_keepsFrames _ l; exact .same rfl rfl rfl; exact .refl s]

theorem State.finishDescriptor_keepsFrames (s : State) (l : Bool) : s.KeepsFrames (s.finishDescriptor l) := by
  unfold State.finishDescriptor
  split
  · exact .refl s
  · have hfree : s.KeepsFrames { s with intake := { s.intake with sending := none, waiting := none } } :=
      .same rfl rfl rfl
    dsimp only
    split <;> [exact hfree; exact hfree.trans (State.slotEvent_keepsFrames _ _ l)]

theorem State.receiveAll_keepsFrames (bs : List Byte) : ∀ s : State, s.KeepsFrames (s.receiveAll bs) := by
  induction bs with
  | nil => exact fun s => .refl s
  | cons b bs ih =>
    refine fun s => .trans ?_ (ih (s.receive b))
    unfold State.receive State.complete
    dsimp only
    (repeat' split) <;> exact .apart rfl rfl

theorem State.tick_keepsFrames (s : State) : s.KeepsFrames s.tick := by
  refine .unlessHeld ?_
  have hacq : s.KeepsFrames s.tickAcq := by
    unfold State.tickAcq
    split <;> [exact .refl s; (split <;> [exact s.expireAcqTimer_keepsFrames; exact .apart rfl rfl])]
  have hsilence (s : State) : s.KeepsFrames s.tickSilence := by
    unfold State.tickSilence
    split <;> [exact .refl s; (split <;> [exact s.expireSilence_keepsFrames; exact .same rfl rfl rfl])]
  have hreceiver (s : State) : s.KeepsFrames s.tickReceiver := by
    unfold State.tickReceiver
    (repeat' split) <;> exact .apart rfl rfl
  have hsecond (s : State) : s.KeepsFrames s.tickSecond := by
    unfold State.tickSecond
    split <;> exact .apart rfl rfl
  exact ((hacq.trans (hsilence _)).trans (hreceiver _)).trans (hsecond _)

/-! LINK_START and LINK_STOP apart, no request touches the Estimator or the intake. -/

theorem serveLinkStart_keepsFrames (s : State) : s.KeepsFrames (serveLinkStart s).state := by
  unfold serveLinkStart
  split <;> [exact s.startLink_keepsFrames; exact .refl s]

theorem serveLinkStop_keepsFrames (s : State) : s.KeepsFrames (serveLinkStop s).state := by
  unfold serveLinkStop
  split <;> [exact .refl s; exact s.stopLink_keepsFrames]

theorem serveSetSetting_keepsFrames (p : List Byte) (s : State) : s.KeepsFrames (serveSetSetting p s).state :=
  .apart (by simp [serveSetSetting]) (by simp [serveSetSetting])

/-- Every command but RX_METRICS leaves the ring or empties it, and makes nothing LOCKED. -/
theorem exec_keepsFrames (c : Instr) (s t : State) (hc : ∀ rest, c ≠ .rxMetrics rest) (he : exec c s = .next t) :
    s.KeepsFrames t := by
  cases c <;> cases he
  case powerOn =>
    split <;> exact .unlocked (.inr rfl) (by simp [State.resetBlocks, State.queueStarted, Intake.initial])
  case resetLineAssert => exact .unlessHeld ⟨.inl rfl, fun h => ⟨h, rfl⟩⟩
  case resetLineRelease =>
    split
    · exact .unlocked (.inr rfl) (by simp [State.resetBlocks, State.queueStarted, Intake.initial])
    · exact .refl s
  case hostMessage bs => exact .unlessHeld (s.receiveAll_keepsFrames bs)
  case interByteTimeout => exact .unlessHeld (.apart rfl rfl)
  case messageSent =>
    refine .unlessHeld ?_
    split <;> [exact s.restartNow_keepsFrames; exact .apart rfl rfl]
  case unknownKind =>
    refine .unlessHeld ?_
    (repeat' split) <;> [exact .refl s; exact .answer _ (.refl _); exact .refl s]
  case getInfo => exact .unlessHeld (.take fun _ t => .refl t)
  case setSetting => exact .unlessHeld (.take serveSetSetting_keepsFrames)
  case getSetting =>
    refine .unlessHeld (.take fun p t => ?_)
    unfold serveGetSetting
    split <;> exact .refl t
  case writeProfile =>
    refine .unlessHeld (.take fun p t => ?_)
    unfold serveWriteProfile
    (repeat' split) <;> exact .apart rfl rfl
  case readProfile =>
    refine .unlessHeld (.take fun p t => ?_)
    unfold serveReadProfile
    split <;> exact .refl t
  case swapTable =>
    refine .unlessHeld (.take fun p t => ?_)
    unfold serveSwapTable
    (repeat' split) <;> exact .apart rfl rfl
  case linkStart => exact .unlessHeld (.take fun _ => serveLinkStart_keepsFrames)
  case linkStop => exact .unlessHeld (.take fun _ => serveLinkStop_keepsFrames)
  case force =>
    refine .unlessHeld (.take fun p t => ?_)
    unfold serveForce
    (repeat' split) <;> exact .apart rfl rfl
  case pilotNow =>
    refine .unlessHeld (.take fun p t => ?_)
    unfold servePilotNow
    split <;> exact .apart rfl rfl
  case readStatus =>
    refine .unlessHeld (.take fun p t => ?_)
    unfold serveReadStatus
    dsimp only
    split <;> exact .refl t
  case readHistory =>
    refine .unlessHeld (.take fun p t => ?_)
    unfold serveReadHistory
    dsimp only
    split <;> exact .refl t
  case readFades =>
    refine .unlessHeld (.take fun p t => ?_)
    unfold serveReadFades
    dsimp only
    split <;> exact .apart rfl rfl
  case readBin =>
    refine .unlessHeld (.take fun p t => ?_)
    unfold serveReadBin
    dsimp only
    split <;> exact .refl t
  case eventEnable => exact .unlessHeld (.take fun _ _ => .apart rfl rfl)
  case clearEvents => exact .unlessHeld (.take fun _ _ => .apart rfl rfl)
  case readEvents => exact .unlessHeld (.take fun _ t => .refl t)
  case watch =>
    refine .unlessHeld (.take fun p t => ?_)
    unfold serveWatch
    dsimp only
    (repeat' split) <;> exact .apart rfl rfl
  case restart => exact .unlessHeld (.take fun _ _ => .apart rfl rfl)
  case restartTakesEffect =>
    refine .unlessHeld ?_
    split <;> [exact s.restartNow_keepsFrames; exact .refl s]
  case watchReport =>
    refine .unlessHeld ?_
    split <;> exact .apart rfl rfl
  case rxMetrics rest => exact absurd rfl (hc rest)
  case unknownRecord => exact .refl s
  case swapTimeout =>
    refine .unlessHeld ?_
    split <;> exact .apart rfl rfl
  case answerTimerExpiry =>
    refine .unlessHeld ?_
    split <;> [exact .apart (by simp) (by simp); exact .refl s]
  case switchMissed =>
    refine .unlessHeld ?_
    split <;> exact .apart rfl rfl
  case backoffExpiry =>
    refine .unlessHeld ?_
    split <;> exact .apart rfl rfl
  case silenceTimerExpiry =>
    refine .unlessHeld ?_
    split <;> [exact s.expireSilence_keepsFrames; exact .refl s]
  case acqTimeout =>
    refine .unlessHeld ?_
    split <;> [exact s.expireAcqTimer_keepsFrames; exact .refl s]
  case txSlot => exact .unlessHeld (s.takeSlot_keepsFrames _ _)
  case descriptorSent => exact .unlessHeld (s.finishDescriptor_keepsFrames _)
  case pilotTimerExpiry =>
    refine .unlessHeld ?_
    split <;> exact .apart rfl rfl
  case secondEnd => exact .unlessHeld (.apart rfl rfl)

theorem step_keeps_frameLaw (s t : State) (he : step s = .next t) (h : s.FrameLaw) : t.FrameLaw := by
  unfold step at he
  split at he
  · cases he
    exact s.tick_keepsFrames.frameLaw h
  · next c rest _ =>
    have h' : State.FrameLaw { s with pending := rest } := ⟨h.ring, h.expected⟩
    by_cases hc : ∃ bytes, c = .rxMetrics bytes
    · obtain ⟨bytes, rfl⟩ := hc
      cases he
      unfold State.unlessHeld
      split <;> [exact h'; exact State.takeMetrics_frameLaw _ _ h']
    · exact (exec_keepsFrames c _ t (fun bytes hb => hc ⟨bytes, hb⟩) he).frameLaw h'

/-- Settles O55: the ranges by the packaged induction over the machine, the frame numbers by what an entry makes of the
ring and what every command but RX_METRICS leaves of it. -/
theorem estimatorLawsAreKept : Obligations.EstimatorLawsAreKept := by
  unfold Obligations.EstimatorLawsAreKept
  exact fun s t he => ⟨fun h => estimatorLawful_stepLaw.step s t h he, step_keeps_frameLaw s t he⟩

end Sys2Proof.Machine
end

section
/-! Records of the modem in SEARCH and LOCKED: what is delivered, and what the ring and the monitor gain by it. -/

namespace Sys2Proof.Machine

/-! ## Records of the modem (R152 to R158) -/

/-- R150, R152: an RX_METRICS is taken by the intake. -/
theorem exec_rxMetrics (rest : List Byte) (s : State) (hs : s.Running) :
    exec (.rxMetrics rest) s = .next (s.takeMetrics (0xD1#8 :: rest)) :=
  congrArg Host.Outcome.next (if_neg (ne_true_of_eq_false hs))

theorem State.takeMetrics_search (s : State) (bs : List Byte) (hi : s.intake.state = .search) :
    s.takeMetrics bs = s.loadSilence.searchRecord (goodRecord 28 bs) (parseMetrics bs) := by
  simp [State.takeMetrics, hi, metricsLength]

theorem State.takeMetrics_locked_good (s : State) (bs : List Byte) (hi : s.intake.state = .locked)
    (hg : goodRecord 28 bs = true) : s.takeMetrics bs = s.loadSilence.lockedGood (parseMetrics bs) := by
  simp [State.takeMetrics, hi, metricsLength, hg]

theorem State.takeMetrics_locked_bad (s : State) (bs : List Byte) (hi : s.intake.state = .locked)
    (hg : goodRecord 28 bs = false) : s.takeMetrics bs = s.loadSilence.lockedBad := by
  simp [State.takeMetrics, hi, metricsLength, hg]

theorem State.takeMetrics_resync (s : State) (bs : List Byte) (hi : s.intake.state = .resync) :
    s.takeMetrics bs = s.loadSilence.resyncRecord (goodRecord 28 bs) (parseMetrics bs) := by
  simp [State.takeMetrics, hi, metricsLength]

/-! ### One record delivered -/

/-- R154, R160: a delivery is an entry, from a state with at most a flag raised. -/
theorem State.Delivers.handles {s t : State} {own : ProfileSet} {m : Metrics} {resumed : Bool}
    (h : s.Delivers own m resumed t) : ∃ host valid, State.Handles { s with host := host }
      { frame := m.frame, resumed := resumed, record := some m, headerValid := valid } t := by
  unfold State.Delivers at h
  dsimp only at h
  split at h <;> [exact ⟨_, _, h⟩; exact ⟨s.host, _, h⟩]

/-- R32: a record delivered is the newest of the ring, where it cannot end RUN. -/
theorem State.Delivers.ring {s t : State} {own : ProfileSet} {m : Metrics} {resumed : Bool}
    (h : s.Delivers own m resumed t) (hl : s.link.Spare 1) : ∃ x : HistoryEntry,
      t.est.ring = (x :: s.est.ring).take 512 ∧ x.frame = m.frame ∧ x.resumed = resumed := by
  obtain ⟨host, valid, hh⟩ := h.handles
  obtain ⟨x, hb, hr⟩ := hh.ring_newest fun good _ => hl.not_loses good
  exact ⟨x, hr, hb.frame, hb.resumed⟩

theorem State.Delivers.monitor {s t : State} {own : ProfileSet} {m : Metrics} {resumed : Bool}
    (h : s.Delivers own m resumed t) : t.monitor.t = min 65535 (s.monitor.t + 1) := by
  obtain ⟨host, valid, hh⟩ := h.handles
  exact hh.monitor.1

/-! ### Held frames delivered -/

/-- R154: each held frame is counted. -/
theorem State.HandlesHeld.monitor (k : Nat) : ∀ (n : FrameNo) (s u : State), State.HandlesHeld k n s u →
    min 65535 (u.monitor.t + 1) = min 65535 (s.monitor.t + k + 1) := by
  induction k with
  | zero => rintro n s u rfl; rfl
  | succ k ih =>
    rintro n s u ⟨w, hw, hu⟩
    have := ih _ w u hu
    have := hw.monitor.1
    omega

/-- A held frame leaves the link one entry less to spare. -/
theorem State.Handles.spare {s t : State} {e : Entry} {k : Nat} (h : s.Handles e t) (he : e.record = none)
    (hl : s.link.Spare (k + 1)) : t.link.Spare k := by
  have ht := h.link_held he (hl.not_loses none)
  intro hrun
  split at ht
  · next hr =>
    obtain ⟨hm, hf⟩ := hl hr
    rw [ht]
    exact ⟨by dsimp only; omega, hf⟩
  · next hr => exact absurd (ht ▸ hrun) hr

/-- Only the newest 511 of a ring show once it has gained an entry. -/
theorem take_append_take (new ring : List HistoryEntry) :
    (new ++ ring.take 512).take 511 = (new ++ ring).take 511 := by
  simp only [List.take_append, List.take_take]
  congr 2
  omega

/-- R32, R154: held frames enter the ring in order. The lists are equal as far as one more entry lets them show. -/
theorem State.HandlesHeld.ring (k : Nat) : ∀ (n : FrameNo) (s u : State), State.HandlesHeld k n s u →
    s.link.Spare (k + 1) → u.link.Spare 1 ∧ ∃ new : List HistoryEntry,
      u.est.ring.take 511 = (new ++ s.est.ring).take 511 ∧ new.length = k ∧
      ∀ j x, new[j]? = some x → x.frame = n + BitVec.ofNat 16 k - BitVec.ofNat 16 (j + 1) ∧
        x.resumed = false ∧ x.held = true := by
  induction k with
  | zero => rintro n s u rfl hl; exact ⟨hl, [], rfl, rfl, by simp⟩
  | succ k ih =>
    rintro n s u ⟨w, hw, hu⟩ hl
    obtain ⟨x, hb, hr⟩ := hw.ring_newest fun good _ => hl.not_loses good
    obtain ⟨hsp, new, hring, hlen, hnew⟩ := ih (n + 1#16) w u hu (hw.spare rfl hl)
    refine ⟨hsp, new ++ [x], ?_, by simp [hlen], fun j y hy => ?_⟩
    · rw [hring, hr, take_append_take, List.append_assoc]
      rfl
    · by_cases hj : j < k
      · rw [List.getElem?_append_left (hlen ▸ hj)] at hy
        obtain ⟨hf, hrest⟩ := hnew j y hy
        refine ⟨?_, hrest⟩
        rw [hf, BitVec.add_assoc, BitVec.add_comm 1#16, ← BitVec.ofNat_add]
      · rw [List.getElem?_append_right (by omega), List.getElem?_singleton] at hy
        obtain ⟨hj', rfl⟩ : j - new.length = 0 ∧ x = y := by
          split at hy <;> [exact ⟨‹_›, Option.some.inj hy⟩; cases hy]
        obtain rfl : j = k := by omega
        refine ⟨?_, hb.resumed, hb.held rfl⟩
        rw [hb.frame, BitVec.add_sub_cancel]

/-! ### The lock (R153, R157) -/

/-- R153: the intake's own items are written, and the record is delivered as a resumed entry. -/
theorem State.lock_delivers (s : State) (m : Metrics) : State.Delivers { s with intake := { s.intake with
      state := .locked, expected := m.frame + 1#16, runLen := 0, badCount := 0,
      resyncCount := if s.intake.state = .resync then 0 else s.intake.resyncCount } }
    s.table.ownMask m true (s.lock m) :=
  State.deliver_delivers _ s.table.ownMask m true

theorem State.lock_intake (s : State) (m : Metrics) : (s.lock m).intake = { s.intake with
      state := .locked, expected := m.frame + 1#16, runLen := 0, badCount := 0,
      resyncCount := if s.intake.state = .resync then 0 else s.intake.resyncCount } :=
  State.deliver_intake _ _ _ _

/-- Settles O35: the three cases of R153, the lock by what a delivery does. -/
theorem searchLocksAfterRun : Obligations.SearchLocksAfterRun := by
  unfold Obligations.SearchLocksAfterRun
  intro rest s hs hi
  dsimp only
  rw [exec_rxMetrics rest s hs, s.takeMetrics_search _ hi]
  have hlock : goodRecord 28 (0xD1#8 :: rest) = true →
      s.settings.lockCount ≤ s.intake.runWith (wordAt (0xD1#8 :: rest) 1) →
      s.loadSilence.searchRecord (goodRecord 28 (0xD1#8 :: rest)) (parseMetrics (0xD1#8 :: rest)) =
        s.loadSilence.lock (parseMetrics (0xD1#8 :: rest)) :=
    fun hg hc => (if_pos hg).trans (if_pos hc)
  have hcount : (if s.loadSilence.intake.state = .resync then 0 else s.loadSilence.intake.resyncCount) =
      s.intake.resyncCount := by simp [hi]
  have hdeliver := s.loadSilence.lock_delivers (parseMetrics (0xD1#8 :: rest))
  have hintake := s.loadSilence.lock_intake (parseMetrics (0xD1#8 :: rest))
  rw [hcount] at hdeliver hintake
  refine ⟨fun hg => ?_, fun hg hc => ?_, fun hg hc => ?_, fun hg hc hl => ?_⟩
  · rw [hg]; rfl
  · rw [hg]
    exact congrArg Host.Outcome.next (if_neg (Nat.not_le_of_lt hc))
  · rw [hlock hg hc]
    exact ⟨_, rfl, hdeliver⟩
  · rw [hlock hg hc]
    obtain ⟨x, hx⟩ := hdeliver.ring fun hrun => absurd hrun hl
    exact ⟨_, x, rfl, hintake, hx⟩

/-! ### Good records in LOCKED (R154) -/

/-- R154: the state as the intake has taken a good record that bears `n`, before any of its entries. -/
def State.accepting (s : State) (n : FrameNo) : State :=
  { s with intake := { s.intake with
      expected := n + 1#16, badCount := 0, silence := some s.settings.recordTimeout } }

/-- R154: a good record at most 3 ahead: a held frame for each missing number, and then the record. -/
theorem State.takeMetrics_near (s : State) (bs : List Byte) (hi : s.intake.state = .locked)
    (hg : goodRecord 28 bs = true) (hgap : (wordAt bs 1 - s.intake.expected).toNat ≤ 3) : s.takeMetrics bs =
      ((s.accepting (wordAt bs 1)).deliverHeld s.intake.expected (wordAt bs 1 - s.intake.expected).toNat).deliver
        (parseMetrics bs) false
        ((parseMetrics bs).headerValid && inSet s.table.ownMask (parseMetrics bs).rxProfile) :=
  (s.takeMetrics_locked_good bs hi hg).trans (if_pos hgap)

/-- R32, R154: the ring gains the held frames of a gap, and the record as the newest. -/
theorem State.HandlesHeld.ring_then {s u t : State} {gap : Nat} {first own : BitVec 16} {m : Metrics}
    (hu : State.HandlesHeld gap first s u) (ht : u.Delivers own m false t) (hn : first + BitVec.ofNat 16 gap = m.frame)
    (hl : s.link.Spare (gap + 1)) : ∃ new : List HistoryEntry,
      t.est.ring = (new ++ s.est.ring).take 512 ∧ new.length = gap + 1 ∧
      ∀ k x, new[k]? = some x → x.frame = m.frame - BitVec.ofNat 16 k ∧ x.resumed = false ∧
        (0 < k → x.held = true) := by
  obtain ⟨hsp, new, hring, hlen, hnew⟩ := State.HandlesHeld.ring gap first s u hu hl
  obtain ⟨x, hx, hf, hr⟩ := ht.ring hsp
  refine ⟨x :: new, ?_, by simp [hlen], fun k y hy => ?_⟩
  · rw [hx, List.cons_append, List.take_succ_cons, List.take_succ_cons, hring]
  · cases k with
    | zero =>
      obtain rfl : x = y := by simpa using hy
      exact ⟨by simpa using hf, hr, nofun⟩
    | succ k =>
      obtain ⟨hfk, hrk, hhk⟩ := hnew k y hy
      exact ⟨hn ▸ hfk, hrk, fun _ => hhk⟩

/-- The number `n` is as far after `first` as their difference. -/
theorem add_ofNat_sub (first n : FrameNo) : first + BitVec.ofNat 16 (n - first).toNat = n := by
  rw [BitVec.ofNat_toNat, BitVec.setWidth_eq]
  bv_omega

/-- R168: an entry counted under its profile. -/
theorem Bin.countEntry_perProfile (b : Bin) (r : Profile) (v : Nat) (p : Profile) :
    (b.countEntry r v).perProfile[p] =
      if p = r then min 4294967295 (b.perProfile[p] + 1) else b.perProfile[p] := by
  simp only [Bin.countEntry, Fin.getElem_fin, Vector.getElem_set, saturate, Fin.val_inj, eq_comm (a := r)]
  split <;> [subst p; skip] <;> rfl

/-- Settles O36: the held frames of the gap and then the record, and the monitor's part of an entry. -/
theorem lockedRecordAdvances : Obligations.LockedRecordAdvances := by
  unfold Obligations.LockedRecordAdvances
  refine ⟨fun rest s hs hi => ?_, fun s v => ?_⟩
  · dsimp only
    intro hg hgap
    rw [exec_rxMetrics rest s hs, s.takeMetrics_near _ hi hg hgap]
    have hheld := State.deliverHeld_handles (wordAt (0xD1#8 :: rest) 1 - s.intake.expected).toNat
      (s.accepting (wordAt (0xD1#8 :: rest) 1)) s.intake.expected
    have hdeliver := State.deliver_delivers ((s.accepting (wordAt (0xD1#8 :: rest) 1)).deliverHeld s.intake.expected
      (wordAt (0xD1#8 :: rest) 1 - s.intake.expected).toNat) s.table.ownMask (parseMetrics (0xD1#8 :: rest)) false
    have hcounted := State.HandlesHeld.monitor _ _ _ _ hheld
    refine ⟨_, rfl, (State.deliver_intake _ _ _ _).trans (State.deliverHeld_intake _ _ _),
      (State.Delivers.monitor hdeliver).trans hcounted, ⟨_, ?_, hdeliver⟩, fun hl => ?_⟩
    · rw [State.deliver_intake, State.deliverHeld_intake]
      exact hheld
    · exact State.HandlesHeld.ring_then hheld hdeliver (add_ofNat_sub _ _) hl
  · refine ⟨(s.monitor.current.countEntry s.hop.r v.history.s).perProfile,
      s.monitor.current.countEntry_perProfile s.hop.r v.history.s, ?_⟩
    cases hmin : s.monitor.current.minS <;> cases hmax : s.monitor.current.maxS <;>
      simp [State.monitorEntry, Bin.countEntry, saturate, hmin, hmax, Nat.min_comm, Nat.max_comm]

/-! ### The other records in LOCKED (R154, R155, R156) -/

/-- R28, R156, R164: the state as the intake enters RESYNC. -/
theorem State.enterResync_eq (s : State) : s.enterResync = (State.raise .resync { s with
      intake := { s.intake with state := .resync, runLen := 0, resyncCount := 0, badCount := 0 }
      est := { s.est with starved := true }
      monitor := { s.monitor with degraded := true } }).raiseIf (!s.est.starved) .starved := by
  simp [State.enterResync, State.starve, State.markDegraded, State.isDegraded, State.raise, State.raiseIf]

/-- R155: the state as the intake has taken a damaged record below bad_limit, before its held entry. -/
def State.skipping (s : State) : State :=
  { s with intake := { s.intake with
      badCount := s.intake.badCount + 1, expected := s.intake.expected + 1#16,
      silence := some s.settings.recordTimeout } }

/-- R155: a damaged record below bad_limit makes a held entry that bears the expected number. -/
theorem State.takeMetrics_below (s : State) (bs : List Byte) (hi : s.intake.state = .locked)
    (hg : goodRecord 28 bs = false) (hbad : s.intake.badCount + 1 < s.settings.badLimit) :
    s.takeMetrics bs = s.skipping.handleEntry (heldFrame s.intake.expected) :=
  (s.takeMetrics_locked_bad bs hi hg).trans (if_pos hbad)

/-- Settles O37: the four cases of R154 and R155, the held entry by what an entry does. -/
theorem lockedFaults : Obligations.LockedFaults := by
  unfold Obligations.LockedFaults
  intro rest s hs hi
  dsimp only
  rw [exec_rxMetrics rest s hs]
  refine ⟨fun hg hgap => ?_, fun hg h3 hlt => ?_, fun hg hbad => ?_, fun hg hbad => ?_⟩
  · rw [s.takeMetrics_locked_good _ hi hg]
    refine congrArg _ ((if_neg ?_).trans (if_pos hgap))
    exact Nat.not_le_of_lt (hgap ▸ (by decide : 3 < 65535))
  · rw [s.takeMetrics_locked_good _ hi hg]
    exact congrArg _ (((if_neg (Nat.not_le_of_lt h3)).trans (if_neg hlt.ne)).trans (State.enterResync_eq _))
  · rw [s.takeMetrics_locked_bad _ hi hg]
    exact congrArg _ ((if_neg (Nat.not_lt_of_le hbad)).trans (State.enterResync_eq _))
  · have hhandles := s.skipping.handleEntry_handles (heldFrame s.intake.expected)
    have hintake := s.skipping.handleEntry_intake (heldFrame s.intake.expected)
    obtain ⟨ht, hh⟩ := State.Handles.monitor hhandles
    rw [s.takeMetrics_below _ hi hg hbad]
    refine ⟨_, rfl, hintake, ht, hh rfl, ?_, fun hl => ?_⟩
    · rw [hintake]
      exact ⟨_, hhandles, rfl⟩
    · obtain ⟨x, hb, hr⟩ := State.Handles.ring_newest hhandles fun good hshow => by
        rw [hshow.eq_none rfl]
        rintro ⟨hrun, hc⟩
        obtain ⟨hmissing, hfar⟩ := hl hrun
        exact hc.elim (Nat.not_le_of_lt hfar) (Nat.not_le_of_lt hmissing)
      exact ⟨x, hr, hb.frame, hb.held rfl, hb.resumed⟩

end Sys2Proof.Machine
end

section
/-! Records of the modem in RESYNC, and the fall to SEARCH with its link loss. -/

namespace Sys2Proof.Machine

/-! ## Raised flags (R177) -/

theorem EventFlag.num_lt (f : EventFlag) : f.num < 22 := by cases f <;> decide

/-- R177: a cause raises its flag and leaves every other alone. -/
theorem HostLink.raise_getLsbD (h : HostLink) (f : EventFlag) (i : Nat) :
    (h.raise f).raised.getLsbD i = (h.raised.getLsbD i || decide (i = f.num)) := by
  have hand : h.raised &&& f.bit = if h.raised.getLsbD f.num then f.bit else 0#22 := by
    rw [EventFlag.bit, ← BitVec.twoPow_eq, BitVec.and_twoPow]
  have hbit : f.bit.getLsbD i = decide (i = f.num) := by
    have := f.num_lt
    rw [EventFlag.bit, ← BitVec.twoPow_eq, BitVec.getLsbD_twoPow]
    by_cases hi : f.num = i <;> simp [hi, eq_comm] <;> omega
  unfold HostLink.raise
  split
  · next hset =>
    have hf : h.raised.getLsbD f.num = true := by
      by_contra hf
      exact hset (by simp [hand, hf])
    by_cases hi : i = f.num <;> simp [hi, hf]
  · dsimp only
    split <;> simp [HostLink.setFlags, hbit]

theorem State.hasFlag_raise (s : State) (f g : EventFlag) :
    (s.raise f).hasFlag g = (s.hasFlag g || decide (g.num = f.num)) :=
  s.host.raise_getLsbD f g.num

theorem State.hasFlag_raiseIf (s : State) (c : Bool) (f g : EventFlag) :
    (s.raiseIf c f).hasFlag g = (s.hasFlag g || (c && decide (g.num = f.num))) := by
  cases c
  · simp [State.raiseIf, State.hasFlag]
  · exact (s.hasFlag_raise f g).trans (by simp)

/-! ## A fade closed by a link event (R49, R50, R53) -/

theorem foldStress_le (sum count exitSum exitCount : Nat) :
    foldStress sum count exitSum exitCount ≤ sum + exitSum := by
  unfold foldStress; (repeat' split) <;> omega

theorem le_foldStress (sum count exitSum exitCount : Nat) (h : sum ≤ 4278190080) :
    sum ≤ foldStress sum count exitSum exitCount := by
  unfold foldStress stressSumLimit; (repeat' split) <;> omega

/-- R44, R50: what the exit run adds to the record. -/
theorem OpenFade.foldIn_foldsTo (o : OpenFade) (f : FadeTracker) :
    o.FoldsTo f (if f.exitLen = 0 then o else o.foldIn f.exitAcc) := by
  by_cases h : f.exitLen = 0
  · rw [if_pos h]
    exact ⟨fun _ => rfl, rfl, fun hn => absurd h hn, fun hn => absurd h hn⟩
  · rw [if_neg h]
    refine ⟨fun hn => absurd hn h, rfl, fun _ => ⟨rfl, rfl, rfl⟩, fun _ => ⟨foldStress_le _ _ _ _,
      le_foldStress _ _ _ _, fun hle => if_pos hle, fun hfull hpos => ?_⟩⟩
    exact (if_neg (by unfold stressCountLimit; omega)).trans (if_pos hfull)

/-- R49: the record as it closes. -/
theorem OpenFade.close_closes (o : OpenFade) (set : Settings) (why : EndedBy) : (o.close set why).Closes o set why where
  body := rfl
  maxDepth := rfl
  kind := by
    have hmean : (if o.stressCount = 0 then 0 else o.stressSum / o.stressCount) = o.stressSum / o.stressCount := by
      split <;> simp [*]
    rw [hmean]
    simp only [OpenFade.close, fadeKind]
    split <;> simp [*]
  endedBy := rfl

/-- R53: the log keeps its newest 32 records. -/
theorem appendLog_newest (log : List FadeRecord) (r : FadeRecord) (h : log.length ≤ 32) :
    appendLog log r = newest 32 (log ++ [r]) := by
  unfold appendLog newest Config.fadeLogCapacity
  split
  · rw [List.length_append, List.length_singleton, show log.length + 1 - 32 = 1 by omega,
      List.drop_append_of_le_length (by omega)]
  · simp [show log.length + 1 - 32 = 0 by omega]

/-- R50: the tracker after a link event, with no fade open and with one. -/
theorem FadeTracker.linkEvent_clear (f : FadeTracker) (set : Settings) (why : EndedBy) (h : f.openFade = none) :
    f.linkEvent set why = { f.emptyRuns with justClosed := false } := by
  simp [FadeTracker.linkEvent, h]

theorem FadeTracker.linkEvent_open (f : FadeTracker) (set : Settings) (why : EndedBy) (o : OpenFade)
    (h : f.openFade = some o) : f.linkEvent set why =
      { f.closeWith (if f.exitLen = 0 then o else o.foldIn f.exitAcc) set why with
        longMark := false, justClosed := false } := by
  simp [FadeTracker.linkEvent, h]

theorem FadeTracker.linkEvent_runs (f : FadeTracker) (set : Settings) (why : EndedBy) :
    (f.linkEvent set why).openFade = none ∧ (f.linkEvent set why).entryLen = 0 ∧
      (f.linkEvent set why).exitLen = 0 ∧ (f.linkEvent set why).idCounter = f.idCounter := by
  cases h : f.openFade with
  | none => rw [f.linkEvent_clear set why h]; exact ⟨h, rfl, rfl, rfl⟩
  | some o => rw [f.linkEvent_open set why o h]; exact ⟨rfl, rfl, rfl, rfl⟩

/-! ## Link loss (R146) -/

/-- R12, R36, R84, R97, R103, R133, R136, R164: an entry to SYNC. -/
theorem State.enterSync_eq (s : State) : s.enterSync = s.atSync := by
  simp [State.enterSync, State.atSync, State.markDegraded, State.isDegraded, ProfileTable.clearMarks,
    ProfileTable.renegotiate, ProfileTable.negotiate, Estimator.enterSync, HopSignalling.enterSync, State.reset,
    HopSignalling.initial]

theorem State.linkLoss_fade (s : State) : s.linkLoss.fade = s.fade.linkEvent s.settings .linkLost := by
  simp [State.linkLoss, State.fadeLinkEvent]

/-- R50, R146, R177: link loss raises LINK_LOSS; and FADE_END where a fade was open, with FADE_LOG_DROP where the log
was full. -/
theorem State.linkLoss_hasFlag (s : State) (g : EventFlag) : s.linkLoss.hasFlag g =
    (s.hasFlag g || decide (g.num = EventFlag.linkLoss.num) ||
      (s.fade.inFade && logFull s.fade.log && decide (g.num = EventFlag.fadeLogDrop.num)) ||
      (s.fade.inFade && decide (g.num = EventFlag.fadeEnd.num))) := by
  have hsync : s.enterSync.hasFlag g = s.hasFlag g := by simp [State.hasFlag]
  unfold State.linkLoss State.fadeLinkEvent
  rw [State.hasFlag_raiseIf, State.hasFlag_raiseIf, ← hsync, ← State.hasFlag_raise]
  simp [State.hasFlag]

/-- R146: link loss from RUN, item by item. -/
theorem State.linkLoss_losesLink (s : State) : s.LosesLink s.linkLoss where
  link := by simp [State.linkLoss, State.enterSync_eq, State.atSync]
  table := by simp [State.linkLoss, State.enterSync_eq]
  est := by simp [State.linkLoss, State.enterSync_eq]
  decision := by simp [State.linkLoss, DecisionUnit.linkEvent, State.reset]
  hop := by simp [State.linkLoss, State.enterSync_eq, State.atSync, State.reset, HopSignalling.initial]
  tx := by simp [State.linkLoss, TransmitRecord.linkEvent]
  power := by simp [State.linkLoss, State.enterSync_eq, State.atSync, PowerControl.linkEvent]
  monitor := by simp [State.linkLoss, State.enterSync_eq, State.atSync]
  intake := by simp
  settings := by simp
  queue := by simp
  flag := by simp [State.linkLoss_hasFlag]
  runs := by rw [State.linkLoss_fade]; exact s.fade.linkEvent_runs _ _
  noFade h := by rw [State.linkLoss_fade, s.fade.linkEvent_clear _ _ h]; rfl
  closed o h hlog := by
    have hin : s.fade.inFade = true := by simp [FadeTracker.inFade, h]
    rw [State.linkLoss_fade, s.fade.linkEvent_open _ _ o h]
    refine ⟨by simp [State.linkLoss_hasFlag, hin], fun hfull => ?_, fun hroom => ?_, rfl,
      _, appendLog_newest _ _ hlog, _, o.foldIn_foldsTo s.fade, OpenFade.close_closes _ _ _⟩
    · simp [State.linkLoss_hasFlag, hin, logFull, Config.fadeLogCapacity, hfull]
    · have hnot : logFull s.fade.log = false := decide_eq_false (Nat.not_le_of_lt hroom)
      simp [State.linkLoss_hasFlag, hnot, EventFlag.num]

/-! ## A record in RESYNC (R157) -/

/-- R157: the state as the intake has counted a record in RESYNC, good or not, that bears `n`. -/
def State.counting (s : State) (good : Bool) (n : FrameNo) : State :=
  { s with intake := { s.intake with
      runLen := if good then s.intake.runWith n else 0
      runLast := if good then n else s.intake.runLast
      resyncCount := s.intake.resyncCount + 1
      silence := some s.settings.recordTimeout } }

/-- R157: the run of four, the limit, and neither. -/
theorem State.takeMetrics_counting (s : State) (bs : List Byte) (hi : s.intake.state = .resync) : s.takeMetrics bs =
    if goodRecord 28 bs ∧ 4 ≤ s.intake.runWith (wordAt bs 1) then
      (s.counting (goodRecord 28 bs) (wordAt bs 1)).lock (parseMetrics bs)
    else if s.settings.resyncLimit < s.intake.resyncCount + 1 then
      (s.counting (goodRecord 28 bs) (wordAt bs 1)).enterSearch
    else s.counting (goodRecord 28 bs) (wordAt bs 1) := by
  rw [s.takeMetrics_resync bs hi]
  cases goodRecord 28 bs <;> rfl

/-- R157, R158, R164: the intake falls to SEARCH, the second is degraded, and the link reacts. -/
theorem State.enterSearch_eq (s : State) : s.enterSearch = State.searchReached { s with
    intake := { s.intake with state := .search, runLen := 0 }, monitor := { s.monitor with degraded := true } } := by
  simp [State.enterSearch, State.markDegraded, State.isDegraded,
    show (IntakeState.search != IntakeState.locked) = true from rfl]

/-- R140, R143: what the link makes of the intake's fall to SEARCH. -/
theorem State.searchReached_run (s : State) (h : s.link.state = .run) : s.searchReached = s.linkLoss := by
  simp [State.searchReached, h]

theorem State.searchReached_caps (s : State) (h : s.link.state = .caps) : s.searchReached = s.atSync := by
  simp [State.searchReached, h, State.enterSync_eq]

theorem State.searchReached_rest (s : State) (h : s.link.state = .sync ∨ s.link.state = .config) :
    s.searchReached = s := by
  rcases h with h | h <;> simp [State.searchReached, h]

/-- Settles O38: the run of four by what a delivery does, the fall to SEARCH by what link loss and an entry to SYNC
do. -/
theorem resyncRecords : Obligations.ResyncRecords := by
  unfold Obligations.ResyncRecords
  intro rest s hs hi
  dsimp only
  rw [exec_rxMetrics rest s hs, s.takeMetrics_counting _ hi]
  generalize goodRecord 28 (0xD1#8 :: rest) = good
  refine ⟨fun hg hrun => ?_, fun hg hrun hc => ?_, fun hg hc => ?_, fun hbad hc => ?_⟩
  · subst hg
    rw [if_pos ⟨rfl, hrun⟩]
    have hcount : (if (s.counting true (wordAt (0xD1#8 :: rest) 1)).intake.state = .resync then 0 else
        (s.counting true (wordAt (0xD1#8 :: rest) 1)).intake.resyncCount) = 0 := if_pos hi
    have hdeliver := State.lock_delivers (s.counting true (wordAt (0xD1#8 :: rest) 1)) (parseMetrics (0xD1#8 :: rest))
    have hintake := State.lock_intake (s.counting true (wordAt (0xD1#8 :: rest) 1)) (parseMetrics (0xD1#8 :: rest))
    rw [hcount] at hdeliver hintake
    have hcounted := State.Delivers.monitor hdeliver
    refine ⟨_, rfl, hintake, hcounted, ?_, fun hl => ?_⟩
    · rw [hintake]
      exact hdeliver
    · obtain ⟨x, hx⟩ := State.Delivers.ring hdeliver hl
      exact ⟨x, hx⟩
  · subst hg
    rw [if_neg fun h => Nat.not_le_of_lt hrun h.2, if_neg (Nat.not_lt_of_le hc)]
    rfl
  · subst hg
    rw [if_neg (by simp), if_neg (Nat.not_lt_of_le hc)]
    rfl
  · have hfall : ¬ (good = true ∧ 4 ≤ s.intake.runWith (wordAt (0xD1#8 :: rest) 1)) :=
      fun h => hbad.elim (by simp [h.1]) fun h' => Nat.not_le_of_lt h' h.2
    rw [if_neg hfall, if_pos hc, State.enterSearch_eq]
    refine ⟨fun hrun => ?_, fun hcaps => ?_, fun hrest => ?_⟩
    · exact ⟨_, congrArg _ (State.searchReached_run _ hrun), State.linkLoss_losesLink _⟩
    · exact congrArg _ (State.searchReached_caps _ hcaps)
    · exact congrArg _ (State.searchReached_rest _ hrest)

end Sys2Proof.Machine
end

section
/-! READ_HISTORY: the request, the span of the ring, and the ten bytes of an entry (R34, R173, R183). -/

namespace Sys2Proof.Machine

/-- R173: a request that can be taken, of the row's kind and length, is answered as it is served. -/
theorem State.Ready.take_eq {s : State} {m : Message} (h : s.Ready m) (f : List Byte → State → Served) :
    s.unlessHeld (·.take m.kind m.payload.length f) =
      (f m.payload s.dropRequest).state.queueReply
        (replyTo m (f m.payload s.dropRequest).status (f m.payload s.dropRequest).payload) := by
  obtain ⟨hrun, hfront, hroom, hserving⟩ := h
  obtain ⟨rest, hbuf⟩ : ∃ rest, s.host.inBuf = m :: rest := by
    cases hb : s.host.inBuf <;> simp_all
  have hfree : 1 ≤ s.host.freePlaces := by
    unfold HostLink.freePlaces Config.outQueueCapacity; omega
  have hcan : s.canTake = true := by simp [State.canTake, hserving, hfree, hbuf]
  have hheld : s.resetLine.asserted = false := hrun
  simp [State.unlessHeld, hheld, State.take, hbuf, hcan, State.answer]

/-- The word and the byte that READ_HISTORY carries. -/
theorem historyPayload (start : BitVec 16) (count : Byte) :
    wordAt (le16 start ++ [count]) 0 = start ∧ byteAt (le16 start ++ [count]) 2 = count :=
  ⟨wordAt_le16 [] [count] start, rfl⟩

/-- R34: the span: as many entries as asked for and held, and in the order of age from its newest end. -/
theorem historySpan_length (ring : List HistoryEntry) (start count : Nat) :
    (historySpan ring start count).length = min count (ring.length - start) := by
  simp [historySpan]

theorem historySpan_getElem (ring : List HistoryEntry) (start count k : Nat)
    (hk : k < (historySpan ring start count).length) :
    (historySpan ring start count).reverse[k]? = ring[start + k]? := by
  rw [historySpan_length] at hk
  rw [historySpan, List.reverse_reverse, List.getElem?_take_of_lt (by omega), List.getElem?_drop]

/-- The low field of a joined word. -/
theorem extract_low {n m : Nat} (x : BitVec n) (y : BitVec m) : (x ++ y).extractLsb' 0 m = y := by
  rw [BitVec.extractLsb'_append_eq_of_add_le (by omega), BitVec.extractLsb'_eq_self]

/-- A bit above the low field of a joined word. -/
theorem bit_above {n m : Nat} (x : BitVec n) (y : BitVec m) (i : Nat) (h : m ≤ i) :
    (x ++ y).getLsbD i = x.getLsbD (i - m) := by
  simp [BitVec.getLsbD_append, Nat.not_lt_of_le h]

/-- The lowest bit of a joined word. -/
theorem bit_low {n : Nat} (x : BitVec n) (b : Bool) : (x ++ BitVec.ofBool b).getLsbD 0 = b := by
  rw [BitVec.getLsbD_append]
  simp

/-- R183: the fields of a packed entry. -/
theorem HistoryEntry.packed_fields (x : HistoryEntry) :
    x.packed.extractLsb' 0 16 = x.frame ∧ x.packed.extractLsb' 16 9 = BitVec.ofNat 9 x.e ∧
    x.packed.extractLsb' 25 9 = BitVec.ofNat 9 x.s ∧ x.packed.extractLsb' 34 9 = BitVec.ofNat 9 x.p ∧
    x.packed.extractLsb' 43 10 = BitVec.ofInt 10 x.d ∧ x.packed.extractLsb' 53 9 = BitVec.ofInt 9 (x.rsl + 400) ∧
    x.packed.extractLsb' 62 4 = BitVec.ofNat 4 (x.rxProfile.elim 0 Fin.val) := by
  unfold HistoryEntry.packed
  refine ⟨?_, ?_, ?_, ?_, ?_, ?_, ?_⟩
  all_goals simp only [extract_low, BitVec.extractLsb'_append_eq_of_le, Nat.le_refl, Nat.reduceLeDiff, Nat.reduceSub]

/-- R183: the marks of a packed entry, and the bits left 0. -/
theorem HistoryEntry.packed_marks (x : HistoryEntry) :
    x.packed.getLsbD 66 = x.held ∧ x.packed.getLsbD 67 = x.resumed ∧ x.packed.getLsbD 68 = x.pilot ∧
    x.packed.getLsbD 69 = x.mainValid ∧ x.packed.getLsbD 70 = x.spaceValid ∧
    x.packed.getLsbD 71 = x.uncorrectable ∧ x.packed.getLsbD 72 = x.inFade ∧ x.packed.getLsbD 73 = x.headerValid ∧
    x.packed.extractLsb' 74 6 = 0#6 := by
  unfold HistoryEntry.packed
  refine ⟨?_, ?_, ?_, ?_, ?_, ?_, ?_, ?_, ?_⟩
  case refine_9 => simp only [BitVec.extractLsb'_append_eq_of_le, Nat.le_refl, Nat.reduceLeDiff, Nat.reduceSub]; rfl
  all_goals simp only [bit_low, bit_above, Nat.le_refl, Nat.reduceLeDiff, Nat.reduceSub]

/-- Settles O28: the checks, the span, and the ten bytes of an entry. -/
theorem readHistoryAnswers : Obligations.ReadHistoryAnswers := by
  unfold Obligations.ReadHistoryAnswers
  intro s m start count hready hkind hpayload
  obtain ⟨hstart, hcount⟩ := historyPayload start count
  have hexec : exec .readHistory s = .next ((serveReadHistory m.payload s.dropRequest).state.queueReply
      (replyTo m (serveReadHistory m.payload s.dropRequest).status
        (serveReadHistory m.payload s.dropRequest).payload)) := by
    have hlen : m.payload.length = 3 := by simp [hpayload, le16_length]
    have := hready.take_eq serveReadHistory
    rw [hkind, hlen] at this
    exact congrArg Host.Outcome.next this
  refine ⟨fun hbad => ?_, fun h1 h2 h3 => ?_, fun x => ?_⟩
  · rw [hexec, serveReadHistory, hpayload, hstart, hcount]
    dsimp only
    rw [if_pos hbad]
    rfl
  · refine ⟨historySpan s.est.ring start.toNat count.toNat, historySpan_length _ _ _,
      fun k hk => historySpan_getElem _ _ _ _ hk, ?_⟩
    rw [hexec, serveReadHistory, hpayload, hstart, hcount]
    dsimp only
    rw [if_neg (by omega), ← List.flatMap_def]
    rfl
  · obtain ⟨h1, h2, h3, h4, h5, h6, h7⟩ := x.packed_fields
    refine ⟨x.packed, rfl, h1, h2, h3, h4, h5, h6, h7.trans ?_, x.packed_marks⟩
    cases x.rxProfile <;> rfl

end Sys2Proof.Machine
end

section
/-! The Estimator at an entry, value by value (R17 to R33). -/

namespace Sys2Proof.Machine

theorem clampInt_eq (lo hi v : Int) (h : lo ≤ hi) : clampInt lo hi v = max lo (min hi v) := by
  unfold clampInt
  split <;> [skip; split] <;> omega

/-- R18: a corrected value. -/
theorem corrected_eq (raw : Nat) (offset : Int) :
    corrected raw offset = (max 0 (min 500 ((raw : Int) + offset))).toNat := by
  unfold corrected clampNat
  rw [clampInt_eq _ _ _ (by decide)]
  rfl

/-- R17: an entry is held when it has no record that div_mode can use. -/
theorem Entry.held_iff (e : Entry) (mode : DivMode) :
    e.held mode = true ↔ ∀ m, e.record = some m → ¬ m.Usable mode := by
  unfold Entry.held
  cases e.record with
  | none => simp
  | some m => cases mode <;> simp [Metrics.Usable]

/-- R19 to R21: what the branches of a usable record combine to. The main branch is in use in MAIN, and outside SPACE
where it alone is valid or its corrected value is no smaller. -/
theorem combine_eq (mode : DivMode) (m : Metrics) (offMain offSpace : Int) (main space : Nat)
    (hmain : corrected m.main.snr offMain = main) (hspace : corrected m.space.snr offSpace = space) :
    let useMain := mode = .main ∨ mode ≠ .space ∧ m.mainValid = true ∧ (m.spaceValid = false ∨ space ≤ main)
    let both := mode = .combine ∧ m.mainValid = true ∧ m.spaceValid = true
    combine mode m offMain offSpace =
      { snr := if both then logAdd main space else if useMain then main else space
        stress := if useMain then m.main.stress else m.space.stress
        rsl := if both then max m.main.rsl m.space.rsl else if useMain then m.main.rsl else m.space.rsl } := by
  cases mode
  case main => simp [combine, oneBranch, hmain]
  case space => simp [combine, oneBranch, hspace]
  all_goals
    cases hm : m.mainValid with
    | false => simp [combine, oneBranch, hm, hspace]
    | true =>
      cases hs : m.spaceValid with
      | false => simp [combine, oneBranch, hm, hs, hmain]
      | true =>
        rcases Nat.lt_or_ge main space with hlt | hge
        · simp [combine, oneBranch, hm, hs, hmain, hspace, hlt, hlt.not_ge]
        · simp [combine, oneBranch, hm, hs, hmain, hspace, hge, hge.not_gt]

/-- R29, R30: the offset of a branch after an entry: only a pilot outside a fade moves it. -/
theorem FadeTracker.pilot_calibrate (f : FadeTracker) (pilot valid : Bool) (b : Branch) (o : Int) :
    (if (pilot && !f.inFade) = true then calibrate valid b o else o) =
      if pilot = true ∧ f.openFade = none ∧ valid = true then
        max (-50) (min 50 (o + max (-5) (min 5 ((b.pilotSnr : Int) - (b.snr + o)))))
      else o := by
  unfold calibrate FadeTracker.inFade
  rw [clampInt_eq _ _ _ (by decide), clampInt_eq _ _ _ (by decide)]
  cases pilot <;> cases f.openFade <;> simp

/-! ### What the Estimator leaves, and what it hands on -/

/-- R27: STARVED is raised as the starved flag goes from clear to set, and nothing else changes but the Estimator. -/
theorem State.estimate_state (s : State) (e : Entry) :
    let t := (s.estimate e).1
    (t.est.starved = true ∧ s.est.starved = false → t = State.raise .starved { s with est := t.est }) ∧
    (¬ (t.est.starved = true ∧ s.est.starved = false) → t = { s with est := t.est }) := by
  simp only [State.estimate, State.raiseIf_est]
  refine ⟨fun ⟨ht, hs⟩ => ?_, fun h => ?_⟩
  · simp [State.raiseIf, State.raise, ht, hs]
  · have hc : ((s.est.handle e s.fade.inFade (s.fade.flagShown s.freeCount) s.settings).1.starved &&
        !s.est.starved) = false := by simpa using h
    simp [State.raiseIf, hc]

/-- R26, R27: a held entry. -/
theorem State.estimate_held (s : State) (e : Entry) (h : e.held s.settings.divMode = true) :
    let x := heldEntry (blankEntry e s.settings.divMode (s.fade.flagShown s.freeCount)) s.est.ring
    (s.estimate e).1.est = { s.est with
      hold := min 255 (s.est.hold + 1)
      starved := s.est.starved || decide (s.settings.holdLimit ≤ min 255 (s.est.hold + 1))
      ring := appendHistory x s.est.ring } ∧
    (s.estimate e).2 = { history := x, stress := none, prevFrame := s.est.ring.head?.map (·.frame) } := by
  exact ⟨congrArg Prod.fst (s.est.handle_held e s.fade.inFade _ _ h),
    congrArg Prod.snd (s.est.handle_held e s.fade.inFade _ _ h)⟩

/-- R18 to R30: a non-held entry. -/
theorem State.estimate_nonHeld (s : State) (e : Entry) (m : Metrics) (hm : e.record = some m)
    (h : e.held s.settings.divMode = false) :
    let x := s.est.entryOf e (s.fade.flagShown s.freeCount) m s.settings
    (s.estimate e).1.est = {
      offMain := if m.pilot && !s.fade.inFade then calibrate m.mainValid m.main s.est.offMain else s.est.offMain
      offSpace :=
        if m.pilot && !s.fade.inFade then calibrate m.spaceValid m.space s.est.offSpace else s.est.offSpace
      s16 := some (s.est.nextS16 m s.settings), hold := 0, starved := false
      ring := appendHistory x s.est.ring } ∧
    (s.estimate e).2 = { history := x, stress := some (s.est.combined m s.settings).stress,
                         prevFrame := s.est.ring.head?.map (·.frame) } := by
  exact ⟨congrArg Prod.fst (s.est.handle_nonHeld e s.fade.inFade _ _ m hm h),
    congrArg Prod.snd (s.est.handle_nonHeld e s.fade.inFade _ _ m hm h)⟩

/-- R33: the fields that a history entry has of the entry itself are those of `blankEntry`. -/
theorem State.estimate_blank (s : State) (e : Entry) :
    let x := (s.estimate e).2.history
    x = { blankEntry e s.settings.divMode (s.fade.flagShown s.freeCount) with
          e := x.e, s := x.s, p := x.p, d := x.d, rsl := x.rsl } := by
  cases hh : e.held s.settings.divMode with
  | true =>
    simp only [(s.estimate_held e hh).2]
    cases s.est.ring <;> rfl
  | false =>
    obtain ⟨m, hm⟩ := e.record_of_not_held _ hh
    simp only [(s.estimate_nonHeld e m hm hh).2]
    rfl

/-- R17, R29, R33: those fields. -/
theorem State.estimate_marks (s : State) (e : Entry) :
    let x := (s.estimate e).2.history
    x.frame = e.frame ∧ x.resumed = e.resumed ∧ x.held = e.held s.settings.divMode ∧
    x.headerValid = (e.headerValid && !e.held s.settings.divMode) ∧
    (s.fade.openFade.isSome → x.inFade = true) ∧
    (s.fade.openFade = none → s.fade.justClosed = false → x.inFade = false) ∧
    (e.record = none → x.rxProfile = none ∧ x.pilot = false ∧ x.mainValid = false ∧ x.spaceValid = false ∧
      x.uncorrectable = false) ∧
    ∀ m, e.record = some m → x.rxProfile = (if x.headerValid then some m.rxProfile else none) ∧
      x.pilot = m.pilot ∧ x.mainValid = m.mainValid ∧ x.spaceValid = m.spaceValid ∧
      x.uncorrectable = m.uncorrectable := by
  dsimp only
  rw [s.estimate_blank e]
  dsimp only [blankEntry]
  refine ⟨rfl, rfl, rfl, e.good_isSome _, fun h => ?_, fun h1 h2 => ?_, fun h => ?_, fun m h => ?_⟩
  · simp [FadeTracker.flagShown, FadeTracker.inFade, h]
  · simp [FadeTracker.flagShown, FadeTracker.inFade, h1, h2]
  · simp [Entry.good, h]
  · refine ⟨?_, by simp [h]⟩
    unfold Entry.good
    split <;> simp [h]

/-- R32: the history entry is the newest of the ring, and the entry before it is handed on. -/
theorem State.estimate_newest (s : State) (e : Entry) :
    (s.estimate e).1.est.ring = ((s.estimate e).2.history :: s.est.ring).take 512 ∧
      (s.estimate e).2.prevFrame = s.est.ring.head?.map HistoryEntry.frame := by
  refine ⟨(s.estimate_ring e).2, ?_⟩
  cases hh : e.held s.settings.divMode with
  | true => rw [(s.estimate_held e hh).2]
  | false =>
    obtain ⟨m, hm⟩ := e.record_of_not_held _ hh
    rw [(s.estimate_nonHeld e m hm hh).2]

/-- Settles O47: the steps of S16, and then an entry's values, by whether it is held. -/
theorem estimatorHandlesEntry : Obligations.EstimatorHandlesEntry := by
  unfold Obligations.EstimatorHandlesEntry
  refine ⟨fun e down up => ⟨smoothStep_none e down up, fun v => ⟨fun h => (smoothStep_up v e down up h).2,
    fun h => (smoothStep_down v e down up h).2⟩⟩, ?_⟩
  intro s e est set t v unusable held rises
  have hunusable (m : Metrics) : unusable m ↔ ¬ m.Usable s.settings.divMode := by
    simp only [unusable, set]
    cases s.settings.divMode <;> simp [Metrics.Usable]
  have hheld : e.held s.settings.divMode = true ↔ held := by
    simp only [e.held_iff, held, hunusable]
  obtain ⟨hrises, hstays⟩ := s.estimate_state e
  obtain ⟨hring, hprev⟩ := s.estimate_newest e
  obtain ⟨hframe, hresumed, hheldIs, hheader, hopen, hclear, hnone, hsome⟩ := s.estimate_marks e
  refine ⟨hrises, hstays, v.history, hring, rfl, hprev, hframe, hresumed, ?_, ?_, hopen, hclear, hnone, hsome,
    ?_, ?_⟩
  · rw [← hheld]; exact iff_of_eq (congrArg (· = true) hheldIs)
  · rw [← hheld, show v.history.headerValid = _ from hheader]; simp
  · intro h
    obtain ⟨ht, hv⟩ := s.estimate_held e (hheld.2 h)
    rw [show t.est = _ from ht, show v = _ from hv]
    refine ⟨rfl, rfl, rfl, rfl, rfl, by simp [est, set], fun hempty => ?_, fun y older hy => ?_⟩
    · rw [show s.est.ring = [] from hempty]
      exact ⟨rfl, rfl, rfl, rfl, rfl⟩
    · rw [show s.est.ring = y :: older from hy]
      refine ⟨rfl, rfl, rfl, fun hr => ⟨if_pos hr, if_pos hr⟩, fun hr => ⟨if_neg ?_, if_neg ?_⟩⟩
      all_goals exact ne_true_of_eq_false hr
  · intro m hm husable fit main space useMain both high gain snr stress offset
    have hh : e.held s.settings.divMode = false := by
      rw [Bool.eq_false_iff, Ne, hheld]
      exact fun h => husable (h m hm)
    obtain ⟨ht, hv⟩ := s.estimate_nonHeld e m hm hh
    rw [show t.est = _ from ht, show v = _ from hv]
    dsimp only
    have hc : s.est.combined m s.settings = {
        snr := snr, stress := stress
        rsl := if both then max m.main.rsl m.space.rsl else if useMain then m.main.rsl else m.space.rsl } :=
      combine_eq _ _ _ _ main space (corrected_eq _ _) (corrected_eq _ _)
    have hsnr : effectiveSnr (s.est.combined m s.settings) s.settings.stressWeight =
        min 500 (snr - stress * set.stressWeight / 64) := by rw [effectiveSnr_eq, hc]
    refine ⟨by rw [hc], rfl, rfl, ?_, ?_, congrArg Combined.rsl hc, hsnr, ⟨_, rfl, rfl, ?_, ?_⟩,
      slope_zero _ _ _, ?_, predict_eq _ _ _⟩
    · exact s.fade.pilot_calibrate m.pilot m.mainValid m.main s.est.offMain
    · exact s.fade.pilot_calibrate m.pilot m.spaceValid m.space s.est.offSpace
    · intro hseed
      rw [Estimator.nextS16, show s.est.s16 = none from hseed]
      exact smoothStep_none _ _ _
    · intro old hold
      rw [Estimator.nextS16, show s.est.s16 = some old from hold]
      exact ⟨fun h => (smoothStep_down old _ _ _ h).1, fun h => (smoothStep_up old _ _ _ h).1⟩
    · intro y hy hr hz
      have hd := slope_back (s.est.nextS16 m s.settings / 16) s.est.ring y hy hz
      rw [← hr] at hd
      exact hd

end Sys2Proof.Machine
end

section
/-! The Fade Tracker: what each of its operations makes of it, and the law of the fade log, kept by every step (R39 to
R54). -/

namespace Sys2Proof.Machine

/-! ## The Fade Tracker at an entry (R39 to R46) -/

/-- R39: outside RUN the tracker does not act. -/
theorem State.trackFade_outside (s : State) (v : EntryValues) (h : s.link.state ≠ .run) : s.trackFade v = s :=
  if_neg h

theorem State.trackFade_clear (s : State) (v : EntryValues) (h : s.link.state = .run) (hf : s.fade.openFade = none) :
    s.trackFade v = s.passClose.fadeClearEntry v.fadeInput := by
  simp [State.trackFade, h, hf]

theorem State.trackFade_open (s : State) (v : EntryValues) (o : OpenFade) (h : s.link.state = .run)
    (hf : s.fade.openFade = some o) : s.trackFade v = s.passClose.fadeOpenEntry o v.fadeInput := by
  simp [State.trackFade, h, hf]

/-- R46: the test of the duration writes the long mark alone of the tracker. -/
@[simp] theorem State.testLongFade_fade (s : State) : s.testLongFade.fade =
    { s.fade with longMark := s.fade.longMark || s.fade.longDue s.settings.fadeLimit } := rfl

@[simp] theorem State.openFade_fade (s : State) : s.openFade.fade =
    { s.fade.openFadeNow s.hop.r with longMark := (s.fade.openFadeNow s.hop.r).longDue s.settings.fadeLimit } := rfl

/-- R41, R42: an entry deep enough, the last of fade_persist or not, and a shallower one. -/
theorem State.fadeClearEntry_opens (s : State) (x : FadeInput)
    (hd : s.settings.fadeEnter ≤ depth s.settings.clearSky x.s)
    (hp : s.settings.fadePersist ≤ s.fade.entryLen + 1) :
    s.fadeClearEntry x = State.openFade { s with fade := s.fade.extendEntryRun x } :=
  (if_pos hd).trans (if_pos hp)

theorem State.fadeClearEntry_extends (s : State) (x : FadeInput)
    (hd : s.settings.fadeEnter ≤ depth s.settings.clearSky x.s) (hp : s.fade.entryLen + 1 < s.settings.fadePersist) :
    s.fadeClearEntry x = { s with fade := s.fade.extendEntryRun x } :=
  (if_pos hd).trans (if_neg (Nat.not_le_of_lt hp))

theorem State.fadeClearEntry_ends (s : State) (x : FadeInput)
    (hd : ¬ s.settings.fadeEnter ≤ depth s.settings.clearSky x.s) :
    s.fadeClearEntry x = { s with fade := { s.fade with entryLen := 0, entryFirst := 0#16, entryAcc := .empty } } :=
  if_neg hd

/-- R44: the tracker with its exit run extended by an entry. -/
def FadeTracker.extendExitRun (f : FadeTracker) (x : FadeInput) : FadeTracker :=
  { f with
    exitLen := f.exitLen + 1
    exitAcc := (if f.exitLen = 0 then RunAccumulators.empty else f.exitAcc).add x false }

/-- R44: the tracker with its exit run folded into the open record `o`, and then an entry. -/
def FadeTracker.deepen (f : FadeTracker) (o : OpenFade) (x : FadeInput) : FadeTracker :=
  { f with
    exitLen := 0
    exitAcc := .empty
    openFade := some ((if f.exitLen = 0 then o else o.foldIn f.exitAcc).add x) }

/-- R44, R45: an entry shallow enough, the last of fade_persist or not, and a deeper one. -/
theorem State.fadeOpenEntry_recovers (s : State) (o : OpenFade) (x : FadeInput)
    (hd : depth s.settings.clearSky x.s ≤ s.settings.fadeExit) (hp : s.settings.fadePersist ≤ s.fade.exitLen + 1) :
    s.fadeOpenEntry o x = (State.testLongFade { s with fade := s.fade.extendExitRun x }).recoverFade o :=
  (if_pos hd).trans (if_pos hp)

theorem State.fadeOpenEntry_extends (s : State) (o : OpenFade) (x : FadeInput)
    (hd : depth s.settings.clearSky x.s ≤ s.settings.fadeExit) (hp : s.fade.exitLen + 1 < s.settings.fadePersist) :
    s.fadeOpenEntry o x = State.testLongFade { s with fade := s.fade.extendExitRun x } :=
  (if_pos hd).trans (if_neg (Nat.not_le_of_lt hp))

theorem State.fadeOpenEntry_deepens (s : State) (o : OpenFade) (x : FadeInput)
    (hd : ¬ depth s.settings.clearSky x.s ≤ s.settings.fadeExit) :
    s.fadeOpenEntry o x = State.testLongFade { s with fade := s.fade.deepen o x } :=
  if_neg hd

/-! ## The law of the fade log (R42, R53) -/

theorem nextFadeId_range (c : Nat) : 1 ≤ nextFadeId c ∧ nextFadeId c ≤ 4294967295 := by
  unfold nextFadeId; split <;> omega

theorem nextFadeId_rises (c : Nat) (h : c < 4294967295) : nextFadeId c = c + 1 := if_neg (Nat.not_le_of_lt h)

namespace FadeTracker.Lawful

variable {f g : FadeTracker}

/-- The law reads the log, the counter and the open fade's id alone. -/
theorem keep (h : f.Lawful) (hlog : g.log = f.log) (hid : g.idCounter = f.idCounter)
    (hopen : g.openFade.map OpenFade.id = f.openFade.map OpenFade.id) : g.Lawful where
  length := hlog ▸ h.length
  rising := hlog ▸ h.rising
  ids := by rw [hlog, hid]; exact h.ids
  counter := hid ▸ h.counter
  opened o ho := by
    obtain ⟨p, hp, he⟩ := Option.map_eq_some_iff.1 (hopen.symm.trans (congrArg _ ho))
    rw [hlog, hid, ← he]
    exact h.opened p hp

/-- R54: records leave the log at its oldest end. -/
theorem dropLog (h : f.Lawful) (n : Nat) : FadeTracker.Lawful { f with log := f.log.drop n } where
  length := by have := h.length; simp only [List.length_drop]; omega
  rising := h.rising.sublist ((List.drop_sublist n f.log).map _)
  ids x hx := h.ids x (List.mem_of_mem_drop hx)
  counter := h.counter
  opened o ho := by
    obtain ⟨hid, hpos, hlt⟩ := h.opened o ho
    exact ⟨hid, hpos, fun x hx => hlt x (List.mem_of_mem_drop hx)⟩

/-- R42: a fade opens under an id above every id of the log; at the wrap of the counter the log is empty. -/
theorem openFadeNow (h : f.Lawful) (r : Profile) : (f.openFadeNow r).Lawful := by
  obtain ⟨hpos, hmax⟩ := nextFadeId_range f.idCounter
  have below : ∀ x ∈ (f.openFadeNow r).log, 1 ≤ x.body.id ∧ x.body.id < nextFadeId f.idCounter := by
    intro x hx
    unfold FadeTracker.openFadeNow at hx
    dsimp only at hx
    split at hx
    · cases hx
    · have := h.ids x hx
      rw [nextFadeId_rises _ (by omega)]
      omega
  have hlog : (f.openFadeNow r).log.Sublist f.log := by
    unfold FadeTracker.openFadeNow
    dsimp only
    split <;> [exact List.nil_sublist _; exact .refl _]
  refine ⟨hlog.length_le.trans h.length, h.rising.sublist (hlog.map _), fun x hx => ?_, hmax, ?_⟩
  · obtain ⟨hge, hlt⟩ := below x hx
    exact ⟨hge, hlt.le⟩
  · rintro o ⟨⟩
    exact ⟨rfl, hpos, fun x hx => (below x hx).2⟩

/-- R45, R50, R53: the open fade is closed into the log, whose newest 32 records stay. -/
theorem closeWith (h : f.Lawful) {p o : OpenFade} (hp : f.openFade = some p) (hid : o.id = p.id) (set : Settings)
    (why : EndedBy) : (f.closeWith o set why).Lawful := by
  obtain ⟨hcounter, hpos, habove⟩ := h.opened p hp
  have hlog : (f.closeWith o set why).log = newest 32 (f.log ++ [o.close set why]) := appendLog_newest _ _ h.length
  have hrise : ((f.log ++ [o.close set why]).map (·.body.id)).Pairwise (· < ·) := by
    rw [List.map_append, List.pairwise_append]
    refine ⟨h.rising, List.pairwise_singleton _ _, fun a ha b hb => ?_⟩
    obtain ⟨x, hx, rfl⟩ := List.mem_map.1 ha
    obtain rfl : b = o.id := by simpa [OpenFade.close] using hb
    exact hid ▸ habove x hx
  refine ⟨?_, ?_, fun x hx => ?_, h.counter, fun o ho => by cases ho⟩
  · rw [hlog, newest, List.length_drop]
    omega
  · rw [hlog]
    exact hrise.sublist ((List.drop_sublist _ _).map _)
  · rw [hlog] at hx
    rcases List.mem_append.1 (List.mem_of_mem_drop hx) with hx | hx
    · exact h.ids x hx
    · obtain rfl := List.mem_singleton.1 hx
      show 1 ≤ o.id ∧ o.id ≤ f.idCounter
      omega

/-- R50: a link event closes an open fade, and leaves the log alone where none is open. -/
theorem linkEvent (h : f.Lawful) (set : Settings) (why : EndedBy) : (f.linkEvent set why).Lawful := by
  cases hf : f.openFade with
  | none =>
    rw [f.linkEvent_clear set why hf]
    exact h.keep rfl rfl rfl
  | some o =>
    rw [f.linkEvent_open set why o hf]
    have hclose := h.closeWith (o := if f.exitLen = 0 then o else o.foldIn f.exitAcc) hf (by split <;> rfl) set why
    exact hclose.keep rfl rfl rfl

theorem followR (h : f.Lawful) (old new : Profile) : (f.followR old new).Lawful :=
  h.keep rfl rfl (by
    rw [FadeTracker.followR, Option.map_map]
    congr 1
    funext o
    simp only [Function.comp]
    split <;> rfl)

theorem countUrgent (h : f.Lawful) : f.countUrgent.Lawful :=
  h.keep rfl rfl (by rw [FadeTracker.countUrgent, Option.map_map]; rfl)

theorem initial : FadeTracker.initial.Lawful :=
  ⟨by decide, .nil, List.forall_mem_nil _, by decide, by rintro o ⟨⟩⟩

end FadeTracker.Lawful

theorem State.fadeClearEntry_lawful (s : State) (x : FadeInput) (h : s.fade.Lawful) :
    (s.fadeClearEntry x).fade.Lawful := by
  by_cases hd : s.settings.fadeEnter ≤ depth s.settings.clearSky x.s
  · have hrun : (s.fade.extendEntryRun x).Lawful := h.keep rfl rfl rfl
    by_cases hp : s.settings.fadePersist ≤ s.fade.entryLen + 1
    · rw [s.fadeClearEntry_opens x hd hp]
      exact (hrun.openFadeNow s.hop.r).keep rfl rfl rfl
    · rw [s.fadeClearEntry_extends x hd (by omega)]
      exact hrun
  · rw [s.fadeClearEntry_ends x hd]
    exact h.keep rfl rfl rfl

theorem State.fadeOpenEntry_lawful (s : State) (o : OpenFade) (x : FadeInput) (ho : s.fade.openFade = some o)
    (h : s.fade.Lawful) : (s.fadeOpenEntry o x).fade.Lawful := by
  by_cases hd : depth s.settings.clearSky x.s ≤ s.settings.fadeExit
  · have hrun : (s.fade.extendExitRun x).Lawful := h.keep rfl rfl rfl
    by_cases hp : s.settings.fadePersist ≤ s.fade.exitLen + 1
    · rw [s.fadeOpenEntry_recovers o x hd hp]
      exact (h.closeWith ho rfl s.settings .recovered).keep rfl rfl rfl
    · rw [s.fadeOpenEntry_extends o x hd (by omega)]
      exact hrun.keep rfl rfl rfl
  · rw [s.fadeOpenEntry_deepens o x hd]
    refine h.keep rfl rfl ?_
    rw [ho]
    simp only [State.testLongFade_fade, FadeTracker.deepen, Option.map_some]
    split <;> rfl

theorem State.trackFade_lawful (s : State) (v : EntryValues) (h : s.fade.Lawful) : (s.trackFade v).fade.Lawful := by
  by_cases hrun : s.link.state = .run
  · have hpass : s.passClose.fade.Lawful := h.keep rfl rfl rfl
    cases ho : s.fade.openFade with
    | none => rw [s.trackFade_clear v hrun ho]; exact State.fadeClearEntry_lawful _ _ hpass
    | some o => rw [s.trackFade_open v o hrun ho]; exact State.fadeOpenEntry_lawful _ o _ ho hpass
  · rwa [s.trackFade_outside v hrun]

theorem State.handTarget_lawful (s : State) (target : PendingAsk) (h : s.fade.Lawful) :
    (s.handTarget target).fade.Lawful := by
  unfold State.handTarget
  split
  · dsimp only
    split <;> [exact h.countUrgent; exact h]
  · exact h

theorem State.runDecision_lawful (s : State) (v : EntryValues) (h : s.fade.Lawful) :
    (s.runDecision v).fade.Lawful := by
  unfold State.runDecision
  dsimp only
  (repeat' split) <;> [exact h; exact State.handTarget_lawful _ _ h; exact h; exact h]

theorem State.signal_lawful (s : State) (good : Option Metrics) (h : s.fade.Lawful) :
    (s.signal good).fade.Lawful := by
  have hfollow (good : Option Metrics) (t : State) (ht : t.fade.Lawful) : (t.followGood good).fade.Lawful := by
    unfold State.followGood State.followHeader
    (repeat' split) <;> [exact ht; exact ht.followR _ _; exact ht]
  unfold State.signal
  simpa using hfollow _ _ (by simpa using h)

theorem State.linkLoss_lawful (s : State) (h : s.fade.Lawful) : s.linkLoss.fade.Lawful := by
  rw [s.linkLoss_fade]
  exact h.linkEvent _ _

theorem State.searchReached_lawful (s : State) (h : s.fade.Lawful) : s.searchReached.fade.Lawful := by
  unfold State.searchReached
  split <;> [exact s.linkLoss_lawful h; exact h; exact h; exact h]

theorem State.linkEntry_lawful (s : State) (good : Option Metrics) (h : s.fade.Lawful) :
    (s.linkEntry good).fade.Lawful := by
  unfold State.linkEntry
  split
  · split <;> exact h
  · split <;> exact h
  · unfold State.watchLink
    dsimp only
    split <;> [exact State.linkLoss_lawful _ h; exact h]
  all_goals exact h

theorem State.stopLink_lawful (s : State) (h : s.fade.Lawful) : s.stopLink.fade.Lawful := by
  unfold State.stopLink
  split <;> [exact h.linkEvent _ _; exact h]

theorem fadeLawful_entryLaw : EntryLaw (fun s => s.fade.Lawful) Entry.InRange where
  outer _ _ _ _ h := h
  clearFresh _ h := h
  estimate _ _ _ h := by simpa using h
  trackFade s v h := s.trackFade_lawful v h
  runDecision s v h := s.runDecision_lawful v h
  signal s good h := s.signal_lawful good h
  powerReceive _ _ h := by simpa using h
  powerTransmit _ _ h := by simpa using h
  monitorEntry _ _ h := h
  takeFarMask _ _ h := by simpa using h
  swapAtEntry _ h := by simpa using h
  linkEntry s good h := s.linkEntry_lawful good h

theorem fadeLawful_stepLaw : StepLaw (fun s => s.fade.Lawful) where
  toEntryLaw := fadeLawful_entryLaw
  commands _ _ h := h
  intake _ _ _ _ _ h := h
  silence _ _ _ h := h
  lock _ _ _ _ _ h := h
  enterResync _ _ h := h
  enterSearch _ _ h := State.searchReached_lawful _ h
  trySwap _ h := by simpa using h
  fixEcho _ _ h := h
  slotSwitches _ _ h := by simpa using h
  slotFinish _ _ _ _ h := by simpa using h
  slotIdle _ _ _ _ h := by simpa using h
  reply _ _ _ h := h
  setValue _ _ _ h := by simpa using h
  writeShadow _ _ _ h := h
  acceptSwap _ _ h := h
  installSwap _ _ _ h := h
  startLink _ _ h := h
  stopLink s _ h := s.stopLink_lawful h
  setForce _ _ h := h
  addPilot _ h := h
  readFades _ n h := h.dropLog n
  dropSwap _ h := h
  expireAnswer _ _ h := by simpa using h
  missSwitch _ _ h := h
  endBackoff _ _ h := h
  expireAcq _ _ h := h
  acqTimer _ _ _ h := h
  expirePilot _ h := h
  endSecond _ h := h
  millis _ _ h := h
  holdReset _ _ h := h
  restartNow _ _ h := h.linkEvent _ _
  powerOn _ _ _ _ := .initial
  release _ _ _ _ _ _ := .initial

/-- Settles O56, by the packaged induction over the machine. -/
theorem fadeLawIsKept : Obligations.FadeLawIsKept := by
  unfold Obligations.FadeLawIsKept
  exact fun s t h he => fadeLawful_stepLaw.step s t h he

end Sys2Proof.Machine
end

section
/-! What holds outside RUN, and the timers of the link, kept by every step (R51, R85, R97, R116, R122, R136 to R146,
R158, R164). -/

namespace Sys2Proof.Machine

/-! ## The parts of the law -/

/-- R51, R85, R97, R116: what holds outside RUN. -/
def State.AtRest (s : State) : Prop :=
  s.tx.active = 0 ∧ s.tx.staged = none ∧ s.hop.r = 0 ∧ s.hop.lane.state = .steady ∧ s.fade.openFade = none ∧
    s.fade.entryLen = 0 ∧ s.fade.exitLen = 0

/-- R122: held A is present exactly while the limit is in effect. -/
def PowerControl.HoldsA (p : PowerControl) : Prop := p.heldA.isSome ↔ p.limit = .limited

theorem State.isDegraded_iff (s : State) :
    s.isDegraded = true ↔ s.intake.state ≠ .locked ∨ s.link.state ≠ .run := by
  simp [State.isDegraded]

theorem State.LinkLaw.atRest {s : State} (h : s.LinkLaw) (hl : s.link.state ≠ .run) : s.AtRest := h.outside hl

/-- The law in SYNC and CAPS. -/
theorem State.LinkLaw.acquiring {s : State} (hl : s.link.state = .sync ∨ s.link.state = .caps)
    (ht : s.link.acqTimer.isSome) (hi : s.intake.state ≠ .idle) (hr : s.AtRest) (hp : s.power.HoldsA)
    (hd : s.monitor.degraded = true) : s.LinkLaw where
  outside _ := hr
  idle := iff_of_false (by rintro hc; simp [hc] at hl) hi
  silence hc := absurd hc hi
  timer := iff_of_true ht hl
  heldA := hp
  degraded _ := hd

/-- The law in CONFIG. -/
theorem State.LinkLaw.stopped {s : State} (hl : s.link.state = .config) (ht : s.link.acqTimer = none)
    (hi : s.intake.state = .idle) (hs : s.intake.silence = none) (hr : s.AtRest) (hp : s.power.HoldsA)
    (hd : s.monitor.degraded = true) : s.LinkLaw where
  outside _ := hr
  idle := iff_of_true hl hi
  silence _ := hs
  timer := iff_of_false (by simp [ht]) (by simp [hl])
  heldA := hp
  degraded _ := hd

theorem State.LinkLaw.awake {s : State} (h : s.LinkLaw) (hl : s.link.state ≠ .config) : s.intake.state ≠ .idle :=
  mt h.idle.2 hl

theorem State.LinkLaw.marked {s : State} (h : s.LinkLaw) (hl : s.link.state ≠ .run) : s.monitor.degraded = true :=
  h.degraded (.inr hl)

theorem State.LinkLaw.running {s : State} (h : s.LinkLaw) (hl : s.link.acqTimer.isSome) :
    s.link.state = .sync ∨ s.link.state = .caps :=
  h.timer.1 hl

/-- An operation that keeps the link state, whether the acquisition timer runs and whether the intake is IDLE, and
each part of the law. -/
structure State.KeepsLink (s t : State) : Prop where
  link     : t.link.state = s.link.state := by simp
  timer    : t.link.acqTimer.isSome = s.link.acqTimer.isSome := by simp
  idle     : t.intake.state = .idle ↔ s.intake.state = .idle := by simp
  silence  : t.intake.state = .idle → t.intake.silence = s.intake.silence := by simp
  rest     : s.link.state ≠ .run → s.AtRest → t.AtRest := by simp +contextual [State.AtRest]
  heldA    : s.power.HoldsA → t.power.HoldsA := by simp
  degraded :
    t.isDegraded = true → (s.isDegraded = true → s.monitor.degraded = true) → t.monitor.degraded = true := by
      simp +contextual [State.isDegraded]

theorem State.LinkLaw.keep {s t : State} (h : s.LinkLaw) (k : s.KeepsLink t) : t.LinkLaw where
  outside hl := k.rest (k.link ▸ hl) (h.atRest (k.link ▸ hl))
  idle := by rw [k.link, k.idle]; exact h.idle
  silence hi := (k.silence hi).trans (h.silence (k.idle.1 hi))
  timer := by rw [k.timer, k.link]; exact h.timer
  heldA := k.heldA h.heldA
  degraded hd := k.degraded (t.isDegraded_iff.2 hd) fun hs => h.degraded (s.isDegraded_iff.1 hs)

/-! ## Entries (R88, R126, R141, R144, R145) -/

theorem State.runDecision_outside (s : State) (v : EntryValues) (h : s.link.state ≠ .run) : s.runDecision v = s :=
  if_neg h

/-! R88: outside RUN steps 2 to 4 are not made. -/

theorem State.followGood_outside (s : State) (good : Option Metrics) (h : s.link.state ≠ .run) :
    s.followGood good = s := by
  unfold State.followGood; split <;> simp_all

theorem State.examineGood_outside (s : State) (good : Option Metrics) (h : s.link.state ≠ .run) :
    s.examineGood good = s := by
  unfold State.examineGood; split <;> simp_all

theorem State.advanceInRun_outside (s : State) (h : s.link.state ≠ .run) : s.advanceInRun = s := by
  unfold State.advanceInRun; split <;> simp_all

theorem State.updateFar_atRest (s : State) (good : Option Metrics) (hr : s.AtRest) : (s.updateFar good).AtRest := by
  unfold State.updateFar; split <;> exact hr

/-- R99, R100: outside RUN every new ask is declined as HALTED, and the staged part stands. -/
theorem State.answerGood_atRest (s : State) (good : Option Metrics) (hl : s.link.state ≠ .run) (hr : s.AtRest) :
    (s.answerGood good).AtRest := by
  unfold State.answerGood State.examineAsk State.answerAsk State.answerUrgent
  dsimp only
  simp only [if_pos hl]
  (repeat' split) <;> exact hr

theorem State.signal_atRest (s : State) (good : Option Metrics) (hl : s.link.state ≠ .run) (hr : s.AtRest) :
    (s.signal good).AtRest := by
  unfold State.signal
  dsimp only
  have hlink (g : Option Metrics) : (s.updateFar g).link.state ≠ .run := by simpa using hl
  rw [State.followGood_outside _ _ (hlink _), State.examineGood_outside _ _ (hlink _),
    State.advanceInRun_outside _ (hlink _)]
  exact State.answerGood_atRest _ _ (hlink _) (s.updateFar_atRest _ hr)

theorem State.powerTransmit_holdsA (s : State) (good : Option Metrics) (h : s.power.HoldsA) :
    (s.powerTransmit good).power.HoldsA := by
  unfold State.powerTransmit
  dsimp only
  (repeat' split) <;> exact h

theorem State.powerReceive_holdsA (s : State) (v : EntryValues) (h : s.power.HoldsA) :
    (s.powerReceive v).power.HoldsA := by
  unfold State.powerReceive; split <;> exact h

theorem State.trySwap_holdsA (s : State) (h : s.power.HoldsA) : s.trySwap.power.HoldsA := by
  unfold State.trySwap; split <;> exact h

theorem State.swapAtEntry_holdsA (s : State) (h : s.power.HoldsA) : s.swapAtEntry.power.HoldsA := by
  unfold State.swapAtEntry; (repeat' split) <;> exact h

/-- R133: an entry to RUN. -/
theorem State.enterRun_linkLaw (s : State) (h : s.LinkLaw) (hl : s.link.state = .caps) : s.enterRun.LinkLaw where
  outside hn := absurd rfl hn
  idle := iff_of_false nofun (by simpa using h.awake (by simp [hl]))
  silence hi := absurd (by simpa using hi) (h.awake (by simp [hl]))
  timer := iff_of_false nofun (by simp [State.enterRun])
  heldA := by
    have := h.heldA
    simp only [State.enterRun, PowerControl.enterRun, State.raise_power]
    split <;> simp_all
  degraded _ := by simpa using h.marked (by simp [hl])

/-- R97, R136, R164: an entry to SYNC, from outside RUN or on the way out of it. -/
theorem State.enterSync_atRest (s : State) (h : s.AtRest) : s.enterSync.AtRest := by
  obtain ⟨hactive, hstaged, hr, -, hfade⟩ := h
  exact ⟨hactive, hstaged, hr, rfl, hfade⟩

theorem State.enterSync_degraded (s : State) : s.enterSync.monitor.degraded = true := by
  rw [s.enterSync_eq]; rfl

/-- R142: an entry to SYNC with the acquisition timer loaded. -/
theorem State.enterSync_loaded_linkLaw (s : State) (hi : s.intake.state ≠ .idle) (hr : s.AtRest)
    (hp : s.power.HoldsA) : s.enterSync.loadAcqTimer.LinkLaw :=
  .acquiring (.inl rfl) rfl hi (s.enterSync_atRest hr) hp s.enterSync_degraded

/-- R146: link loss from RUN. -/
theorem State.linkLoss_linkLaw (s : State) (hi : s.intake.state ≠ .idle) (hp : s.power.HoldsA) :
    s.linkLoss.LinkLaw := by
  have loses := s.linkLoss_losesLink
  obtain ⟨hopen, hentry, hexit, -⟩ := loses.runs
  refine .acquiring (.inl ?_) ?_ ?_ ⟨?_, ?_, ?_, ?_, hopen, hentry, hexit⟩ ?_ ?_
  · rw [loses.link]
  · rw [loses.link]; rfl
  · rwa [loses.intake]
  · rw [loses.tx]
  · rw [loses.tx]
  · rw [loses.hop]; rfl
  · rw [loses.hop]; rfl
  · rw [loses.power]; exact hp
  · rw [loses.monitor]

theorem State.linkEntry_linkLaw (s : State) (good : Option Metrics) (h : s.LinkLaw) : (s.linkEntry good).LinkLaw := by
  unfold State.linkEntry
  split
  · next hl =>
    split
    · have hn : s.link.state ≠ .run := by simp [hl]
      exact .acquiring (.inr rfl) (h.timer.2 (.inl hl)) (h.awake (by simp [hl])) (h.atRest hn) h.heldA (h.marked hn)
    · exact h
  · next hl => split <;> [exact s.enterRun_linkLaw h hl; exact s.enterRun_linkLaw h hl; exact h; exact h]
  · next hl =>
    unfold State.watchLink
    dsimp only
    split
    · exact State.linkLoss_linkLaw _ (h.awake (by simp [hl])) h.heldA
    · exact h.keep {}
  all_goals exact h

/-! An entry marks no second as degraded and takes no mark away, but where it ends RUN. -/

theorem State.trackFade_degraded (s : State) (v : EntryValues) :
    (s.trackFade v).monitor.degraded = s.monitor.degraded := by
  unfold State.trackFade State.fadeClearEntry
  dsimp only
  (repeat' split) <;> simp [State.openFade]

theorem State.signal_degraded (s : State) (good : Option Metrics) :
    (s.signal good).monitor.degraded = s.monitor.degraded := by
  simp only [State.signal, State.answerGood_frame, State.advanceInRun_frame, State.examineGood_frame]
  unfold State.followGood State.followHeader
  (repeat' split) <;> simp [State.changeR]

theorem linkLaw_entryLaw : EntryLaw State.LinkLaw Entry.InRange where
  outer _ _ _ _ h := h.keep {}
  clearFresh _ h := h.keep {}
  estimate _ _ _ h := h.keep {}
  trackFade s v h := h.keep
    { rest := fun hl hr => by rwa [s.trackFade_outside v hl]
      degraded := by simp +contextual [State.isDegraded, s.trackFade_degraded] }
  runDecision s v h := h.keep { rest := fun hl hr => by rwa [s.runDecision_outside v hl] }
  signal s good h := h.keep
    { rest := s.signal_atRest good
      degraded := by simp +contextual [State.isDegraded, s.signal_degraded] }
  powerReceive s v h := h.keep { heldA := s.powerReceive_holdsA v }
  powerTransmit s good h := h.keep { heldA := s.powerTransmit_holdsA good }
  monitorEntry _ _ h := h.keep
    { degraded := by simp +contextual [State.isDegraded, State.monitorEntry] }
  takeFarMask _ _ h := h.keep {}
  swapAtEntry s h := h.keep { heldA := s.swapAtEntry_holdsA }
  linkEntry s good h := s.linkEntry_linkLaw good h

/-! ## Slots (R107, R116, R130 to R133) -/

/-- R131: outside RUN the TXLIM work leaves the transmit record and the lanes alone. -/
theorem State.limitWork_outside (s : State) (txlim : Bool) (h : s.link.state ≠ .run) :
    (s.limitWork txlim).tx = s.tx ∧ (s.limitWork txlim).hop = s.hop := by
  have hrun : (s.link.state == .run) = false := by simpa using h
  unfold State.limitWork
  dsimp only
  rw [hrun]
  generalize (if txlim = true then LimitSample.asserted else .released) = x
  cases s.power.limitChanges x <;> cases x <;> exact ⟨rfl, rfl⟩

/-- R131, R132: held A is taken as the limit comes into effect, and given up as it is released. -/
theorem State.limitWork_holdsA (s : State) (txlim : Bool) (h : s.power.HoldsA) :
    (s.limitWork txlim).power.HoldsA := by
  unfold State.limitWork
  dsimp only
  generalize (if txlim = true then LimitSample.asserted else .released) = x
  cases hc : s.power.limitChanges x with
  | false => simpa [PowerControl.HoldsA, PowerControl.sample, hc] using h
  | true =>
    cases x with
    | asserted =>
      dsimp only
      split <;> simp [PowerControl.HoldsA, PowerControl.sample, hc]
    | released => simp [PowerControl.HoldsA, PowerControl.sample, hc]

theorem State.idlePower_holdsA (s : State) (txlim : Bool) (h : s.power.HoldsA) :
    (s.idlePower txlim).power.HoldsA := by
  rcases s.idlePower_cases txlim with hc | hc <;> rw [hc]
  · exact s.limitWork_holdsA txlim h
  · exact s.setIdleAtten.limitWork_holdsA txlim h

theorem State.idlePower_atRest (s : State) (txlim : Bool) (h : s.link.state ≠ .run) (hr : s.AtRest) :
    (s.idlePower txlim).AtRest := by
  have hkept : (s.idlePower txlim).tx = s.tx ∧ (s.idlePower txlim).hop = s.hop := by
    rcases s.idlePower_cases txlim with hc | hc <;> rw [hc]
    · exact s.limitWork_outside txlim h
    · exact s.setIdleAtten.limitWork_outside txlim h
  obtain ⟨htx, hhop⟩ := hkept
  unfold State.AtRest
  rw [htx, hhop]
  simpa [State.AtRest] using hr

/-- R113, R114: a slot outside RUN. -/
theorem State.slotIdle_keepsLink (s : State) (echo : FrameNo) (l : Bool) (h : s.link.state ≠ .run) :
    s.KeepsLink (s.slotIdle echo l) where
  silence := by simp [State.slotIdle, State.send]
  rest _ hr := s.reloadPilotTimer.idlePower_atRest l h hr
  heldA hp := s.reloadPilotTimer.idlePower_holdsA l (by simpa using hp)

/-- R112: a slot in RUN. -/
theorem State.slotFinish_keepsLink (s : State) (echo : FrameNo) (l : Bool) (h : s.link.state = .run) :
    s.KeepsLink (s.slotFinish echo l) where
  silence := by simp [State.slotFinish, State.send]
  rest hl := absurd h hl
  heldA hp := State.limitWork_holdsA _ l (by simpa using hp)

/-! ## The intake's changes of state (R153, R156, R157, R158) -/

/-- R156: the intake falls to RESYNC, and the second is degraded. -/
theorem State.enterResync_keepsLink (s : State) (hi : s.intake.state = .locked) : s.KeepsLink s.enterResync where
  idle := by simp [State.enterResync, hi]
  silence hc := by simp [State.enterResync] at hc
  degraded _ _ := by simp [State.enterResync, State.isDegraded]

/-- R140, R143: the intake has fallen to SEARCH. -/
theorem State.searchReached_linkLaw (s : State) (h : s.LinkLaw) : s.searchReached.LinkLaw := by
  unfold State.searchReached
  split
  · next hl => exact s.linkLoss_linkLaw (h.awake (by simp [hl])) h.heldA
  · next hl =>
    have hn : s.link.state ≠ .run := by simp [hl]
    exact .acquiring (.inl rfl) (h.timer.2 (.inr hl)) (h.awake (by simp [hl]))
      (s.enterSync_atRest (h.atRest hn)) h.heldA s.enterSync_degraded
  all_goals exact h

/-- R157, R158: the intake falls to SEARCH. -/
theorem State.enterSearch_linkLaw (s : State) (hi : s.intake.state = .resync) (h : s.LinkLaw) :
    s.enterSearch.LinkLaw := by
  rw [s.enterSearch_eq]
  exact State.searchReached_linkLaw _ (h.keep { idle := by simp [hi], silence := nofun, degraded := fun _ _ => rfl })

/-! ## LINK_START, LINK_STOP and the resets (R137, R138, R148) -/

theorem State.startLink_linkLaw (s : State) (hl : s.link.state = .config) (h : s.LinkLaw) : s.startLink.LinkLaw :=
  State.enterSync_loaded_linkLaw _ nofun (h.atRest (by simp [hl])) h.heldA

theorem State.expireAcqTimer_linkLaw (s : State) (ht : s.link.acqTimer.isSome) (h : s.LinkLaw) :
    s.expireAcqTimer.LinkLaw := by
  have hl := h.running ht
  exact State.enterSync_loaded_linkLaw (s.raise .acqTimeout) (h.awake (by rintro hc; simp [hc] at hl))
    (h.atRest (by rintro hc; simp [hc] at hl)) h.heldA

theorem State.stopLink_linkLaw (s : State) (h : s.LinkLaw) : s.stopLink.LinkLaw := by
  have hmark : s.stopCommon.monitor.degraded = true := by simp [State.stopCommon, State.isDegraded]
  unfold State.stopLink
  split
  · obtain ⟨hopen, hentry, hexit, -⟩ := s.fade.linkEvent_runs s.settings .stopped
    exact .stopped rfl rfl rfl rfl ⟨rfl, rfl, rfl, rfl, hopen, hentry, hexit⟩ h.heldA hmark
  · next hl =>
    obtain ⟨-, -, hrest⟩ := h.atRest hl
    exact .stopped rfl rfl rfl rfl ⟨rfl, rfl, hrest⟩ h.heldA hmark

theorem PowerControl.initial_holdsA (attenMax : Nat) : (PowerControl.initial attenMax).HoldsA :=
  iff_of_false nofun nofun

theorem State.restartNow_linkLaw (s : State) : s.restartNow.LinkLaw := by
  obtain ⟨hopen, hentry, hexit, -⟩ := s.fade.linkEvent_runs s.settings .restart
  exact .stopped rfl rfl rfl rfl ⟨rfl, rfl, rfl, rfl, hopen, hentry, hexit⟩
    (PowerControl.initial_holdsA s.settings.attenMax) (by simp [State.restartNow, State.isDegraded, Intake.set])

/-- R51, R85, R97, R106, R122, R136, R151, R164: every block at its values after a reset. -/
theorem State.resetBlocks_linkLaw (s : State) (c : ResetCause) (m : Monitor) (n : Nat) (hm : m.degraded = true)
    (l : ResetLine) : State.LinkLaw { s.resetBlocks c m n with resetLine := l } :=
  .stopped rfl rfl rfl rfl ⟨rfl, rfl, rfl, rfl, rfl, rfl, rfl⟩ (PowerControl.initial_holdsA _) hm

/-- R176: a SET writes the settings, and of the transmit record the reload mark alone. -/
theorem State.setValue_atRest (s : State) (id : Nat) (v : Int) (h : s.AtRest) : (s.setValue id v).2.AtRest := by
  unfold State.setValue
  dsimp only
  (repeat' split) <;> exact h

theorem linkLaw_stepLaw : StepLaw State.LinkLaw where
  toEntryLaw := linkLaw_entryLaw
  commands _ _ h := h.keep {}
  intake s i hst hs _ h := h.keep
    { idle := by rw [hst]
      silence := fun hi => hs (hst ▸ hi)
      degraded := by simp +contextual [State.isDegraded, hst] }
  silence s n hs h := h.keep { silence := fun hi => by simp [h.silence hi] at hs }
  lock s i hi hlocked _ h := h.keep
    { idle := by simp [hi, hlocked]
      silence := fun hc => by simp [hlocked] at hc
      degraded := by simp +contextual [State.isDegraded, hlocked] }
  enterResync s hi h := h.keep (s.enterResync_keepsLink hi)
  enterSearch s hi h := s.enterSearch_linkLaw hi h
  trySwap s h := h.keep { heldA := s.trySwap_holdsA }
  fixEcho s x h := h.keep { rest := fun _ hr => hr }
  slotSwitches _ hl h := h.keep { rest := fun hn => absurd hl hn }
  slotFinish s n l hl h := h.keep (s.slotFinish_keepsLink n l hl)
  slotIdle s n l hl h := h.keep (s.slotIdle_keepsLink n l hl)
  reply _ _ _ h := h.keep {}
  setValue s id v h := h.keep { rest := fun _ hr => s.setValue_atRest id v hr }
  writeShadow _ _ _ h := h.keep {}
  acceptSwap _ _ h := h.keep {}
  installSwap s _ _ h := h.keep { heldA := id }
  startLink s hl h := s.startLink_linkLaw hl h
  stopLink s _ h := s.stopLink_linkLaw h
  setForce _ _ h := h.keep {}
  addPilot s h := h.keep { rest := fun _ hr => hr }
  readFades _ _ h := h.keep {}
  dropSwap _ h := h.keep {}
  expireAnswer s hl h := h.keep { rest := fun _ hr => by simp [State.AtRest, hl] at hr }
  missSwitch s hl h := h.keep { rest := fun _ hr => by simp [State.AtRest, hl] at hr }
  endBackoff s hl h := h.keep { rest := fun _ hr => by simp [State.AtRest, hl] at hr }
  expireAcq s ht h := s.expireAcqTimer_linkLaw ht h
  acqTimer s n ht h := h.keep { timer := ht.symm }
  expirePilot s h := h.keep { rest := fun _ hr => hr }
  endSecond s h := h.keep { degraded := fun hd _ => hd }
  millis _ _ h := h.keep {}
  holdReset s _ h := h.keep { idle := .rfl, silence := fun _ => rfl, degraded := fun _ _ => rfl }
  restartNow s _ _ := s.restartNow_linkLaw
  powerOn s l n _ := s.resetBlocks_linkLaw _ _ n rfl l
  release s c n l _ _ := s.resetBlocks_linkLaw c _ n rfl l

/-- Settles O58, by the packaged induction over the machine. -/
theorem linkLawIsKept : Obligations.LinkLawIsKept := by
  unfold Obligations.LinkLawIsKept
  exact fun s t h he => linkLaw_stepLaw.step s t h he

end Sys2Proof.Machine
end

section
/-! READ_FADES: the request, the records that leave the log, and the thirty bytes of a record (R53, R54, R183). -/

namespace Sys2Proof.Machine

/-- R54: a max outside 1..6 is refused. -/
theorem serveReadFades_refuses (p : List Byte) (s : State) (h : (byteAt p 0).toNat < 1 ∨ 6 < (byteAt p 0).toNat) :
    serveReadFades p s = refusal .outOfRange s := if_pos h

/-- R54: the oldest records are read, and leave the log. -/
theorem serveReadFades_takes (p : List Byte) (s : State)
    (h : ¬ ((byteAt p 0).toNat < 1 ∨ 6 < (byteAt p 0).toNat)) : serveReadFades p s =
      { status := .ok
        payload := le8 s.fade.log.length ++ le8 (s.fade.log.take (byteAt p 0).toNat).length ++
          (s.fade.log.take (byteAt p 0).toNat).flatMap FadeRecord.bytes
        state := { s with fade := { s.fade with log := s.fade.log.drop (byteAt p 0).toNat } } } :=
  (if_neg h).trans (by rw [List.flatMap_def])

/-- R53, R183: the bytes of a fade record, the codes of its kind and of its end written out. -/
theorem FadeRecord.bytes_eq (x : FadeRecord) : x.bytes =
    leNat32 x.body.id ++ le16 x.body.start ++ leNat32 x.body.duration ++ leNat16 x.body.minS ++ leNat16 x.maxDepth ++
      [BitVec.ofNat 8 x.body.rOpen.val, BitVec.ofNat 8 x.body.lowR.val] ++ leNat16 x.body.downshifts ++
      leNat16 x.body.urgents ++ leNat32 x.body.stressSum ++ leNat32 x.body.stressCount ++
      [match x.kind with | .flat => 0#8 | .selective => 1#8] ++
      [match x.endedBy with | .recovered => 0#8 | .linkLost => 1#8 | .stopped => 2#8 | .restart => 3#8] := by
  have hkind : le8 x.kind.code = [match x.kind with | .flat => 0#8 | .selective => 1#8] := by cases x.kind <;> rfl
  have hended : leOpt ((some x.endedBy).map EndedBy.code) =
      [match x.endedBy with | .recovered => 0#8 | .linkLost => 1#8 | .stopped => 2#8 | .restart => 3#8] := by
    cases x.endedBy <;> rfl
  rw [FadeRecord.bytes, fadeBytes, hkind, hended, List.append_assoc _ (le8 _) (le8 _)]
  rfl

/-- Settles O29: the check of max, the split of the log, and the bytes of a record. -/
theorem readFadesTakesOldest : Obligations.ReadFadesTakesOldest := by
  unfold Obligations.ReadFadesTakesOldest
  intro s m max hready hkind hpayload n16 n32 fields
  have hmax : byteAt m.payload 0 = max := by rw [hpayload]; rfl
  have hexec : exec .readFades s = .next ((serveReadFades m.payload s.dropRequest).state.queueReply
      (replyTo m (serveReadFades m.payload s.dropRequest).status
        (serveReadFades m.payload s.dropRequest).payload)) := by
    have hlen : m.payload.length = 1 := by simp [hpayload]
    have htake := hready.take_eq serveReadFades
    rw [hkind, hlen] at htake
    exact congrArg Host.Outcome.next htake
  have hfields : fields = FadeRecord.bytes := funext fun x => x.bytes_eq.symm
  refine ⟨fun hbad => ?_, fun hlow hhigh => ?_⟩
  · rw [hexec, serveReadFades_refuses _ _ (hmax ▸ hbad)]
    rfl
  · refine ⟨s.fade.log.take max.toNat, s.fade.log.drop max.toNat, (List.take_append_drop _ _).symm,
      List.length_take, ?_⟩
    rw [hexec, serveReadFades_takes _ _ (by rw [hmax]; omega), hmax, hfields]
    rfl

end Sys2Proof.Machine
end

section
/-! The Fade Tracker at an entry: both runs, the opening, the closing and LONG_FADE, item by item (R39 to R49, R53,
R168). -/

namespace Sys2Proof.Machine

/-! ## What an entry adds (R42, R43) -/

theorem addStress_eq (sum count : Nat) (stress : Option Nat) : addStress sum count stress =
    (if stress.isSome && decide (count < 16777215) then sum + stress.getD 0 else sum,
      if stress.isSome && decide (count < 16777215) then count + 1 else count) := by
  cases stress with
  | none => rfl
  | some x =>
    by_cases h : count < 16777215 <;> simp [addStress, stressCountLimit, h]

/-- R43: an entry added to the accumulators of a run. -/
theorem RunAccumulators.add_eq (a : RunAccumulators) (x : FadeInput) (first : Bool) : a.add x first =
    { duration := min 4294967295 (a.duration + x.contribution first), lowS := min a.lowS x.s
      stressSum :=
        if x.stress.isSome && decide (a.stressCount < 16777215) then a.stressSum + x.stress.getD 0 else a.stressSum
      stressCount :=
        if x.stress.isSome && decide (a.stressCount < 16777215) then a.stressCount + 1 else a.stressCount } := by
  rw [RunAccumulators.add, addStress_eq]
  rfl

/-- R43: an entry added to the open record. -/
theorem OpenFade.add_eq (o : OpenFade) (x : FadeInput) : o.add x =
    { o with
      duration := min 4294967295 (o.duration + x.contribution false), minS := min o.minS x.s
      stressSum :=
        if x.stress.isSome && decide (o.stressCount < 16777215) then o.stressSum + x.stress.getD 0 else o.stressSum
      stressCount :=
        if x.stress.isSome && decide (o.stressCount < 16777215) then o.stressCount + 1 else o.stressCount } := by
  rw [OpenFade.add, addStress_eq]
  rfl

/-- R41: the entry run, begun by an entry or extended by it. -/
theorem FadeTracker.extendEntryRun_eq (f : FadeTracker) (x : FadeInput) : f.extendEntryRun x =
    { f with
      entryLen := f.entryLen + 1
      entryFirst := if f.entryLen = 0 then x.frame else f.entryFirst
      entryAcc := if f.entryLen = 0 then RunAccumulators.empty.add x true else f.entryAcc.add x false } := by
  by_cases h : f.entryLen = 0 <;> simp [FadeTracker.extendEntryRun, beq_eq_false_iff_ne.2, h]

/-- R44: the exit run, begun by an entry or extended by it. -/
theorem FadeTracker.extendExitRun_acc (f : FadeTracker) (x : FadeInput) : (f.extendExitRun x).exitAcc =
    if f.exitLen = 0 then RunAccumulators.empty.add x false else f.exitAcc.add x false := by
  by_cases h : f.exitLen = 0 <;> simp [FadeTracker.extendExitRun, h]

theorem nextFadeId_eq (c : Nat) : nextFadeId c = if c < 4294967295 then c + 1 else 1 := by
  unfold nextFadeId
  split <;> split <;> omega

/-! ## LONG_FADE (R46) -/

theorem State.testLongFade_hasFlag (s : State) (g : EventFlag) : s.testLongFade.hasFlag g =
    (s.hasFlag g || (s.fade.longDue s.settings.fadeLimit && decide (g.num = EventFlag.longFade.num))) :=
  State.hasFlag_raiseIf _ _ _ _

theorem FadeTracker.longDue_open (f : FadeTracker) (o : OpenFade) (limit : Nat) (h : f.openFade = some o) :
    f.longDue limit = (!f.longMark && decide (limit ≤ o.duration)) := by
  simp [FadeTracker.longDue, h]

/-- R46: `t` is left by the test of LONG_FADE made in `s` on a record of duration `d`: it is raised once, when the
duration has reached the limit. -/
def State.TestsLong (s t : State) (d : Nat) : Prop :=
  (s.fade.longMark = false → s.settings.fadeLimit ≤ d → t.fade.longMark = true ∧ t.hasFlag .longFade = true) ∧
  (s.fade.longMark = true ∨ d < s.settings.fadeLimit →
    t.fade.longMark = s.fade.longMark ∧ t.hasFlag .longFade = s.hasFlag .longFade)

theorem State.testLongFade_testsLong (s : State) (o : OpenFade) (h : s.fade.openFade = some o) :
    s.TestsLong s.testLongFade o.duration := by
  unfold State.TestsLong
  rw [s.testLongFade_hasFlag, s.testLongFade_fade, s.fade.longDue_open o _ h]
  refine ⟨fun hm hd => by simp [hm, hd], fun hc => ?_⟩
  rcases hc with hm | hd
  · simp [hm]
  · simp [Nat.not_le_of_lt hd]

/-! ## A fade opens (R42) -/

/-- R42: the flags of an opening. -/
theorem State.openFade_hasFlag (s : State) (g : EventFlag) : s.openFade.hasFlag g =
    (s.hasFlag g ||
      (decide (4294967295 ≤ s.fade.idCounter) && !s.fade.log.isEmpty && decide (g.num = EventFlag.fadeLogDrop.num)) ||
      decide (g.num = EventFlag.fadeStart.num) ||
      ((s.fade.openFadeNow s.hop.r).longDue s.settings.fadeLimit && decide (g.num = EventFlag.longFade.num))) := by
  rw [State.openFade, State.testLongFade_hasFlag, State.hasFlag_raise, State.hasFlag_raiseIf]
  rfl

/-- R46: the opening entry makes the test on what the run holds, with the long mark clear. -/
theorem State.openFade_once (s : State) :
    (s.settings.fadeLimit ≤ s.fade.entryAcc.duration →
      s.openFade.fade.longMark = true ∧ s.openFade.hasFlag .longFade = true) ∧
    (s.fade.entryAcc.duration < s.settings.fadeLimit →
      s.openFade.fade.longMark = false ∧ s.openFade.hasFlag .longFade = s.hasFlag .longFade) := by
  have hdue : (s.fade.openFadeNow s.hop.r).longDue s.settings.fadeLimit =
      decide (s.settings.fadeLimit ≤ s.fade.entryAcc.duration) :=
    FadeTracker.longDue_open _ (s.fade.openRecord s.hop.r) _ rfl
  rw [s.openFade_hasFlag, s.openFade_fade, hdue]
  refine ⟨fun hd => by simp [hd], fun hd => ?_⟩
  simp [Nat.not_le_of_lt hd, EventFlag.num]

/-- R41, R42: the entry that completes fade_persist, in terms of the extended run. -/
theorem State.openFade_opens (s : State) :
    let t := s.openFade
    let id := if s.fade.idCounter < 4294967295 then s.fade.idCounter + 1 else 1
    t.fade.openFade = some { id := id, start := s.fade.entryFirst, duration := s.fade.entryAcc.duration
                             minS := s.fade.entryAcc.lowS, rOpen := s.hop.r, lowR := s.hop.r, downshifts := 0
                             urgents := 0, stressSum := s.fade.entryAcc.stressSum
                             stressCount := s.fade.entryAcc.stressCount } ∧
    t.fade.idCounter = id ∧ t.fade.entryLen = 0 ∧ t.fade.exitLen = 0 ∧ t.hasFlag .fadeStart = true ∧
    t.monitor = { s.monitor with current := s.monitor.current.countFade } ∧
    (s.fade.idCounter < 4294967295 → t.fade.log = s.fade.log) ∧
    (4294967295 ≤ s.fade.idCounter → t.fade.log = [] ∧ (s.fade.log ≠ [] → t.hasFlag .fadeLogDrop = true)) ∧
    (s.settings.fadeLimit ≤ s.fade.entryAcc.duration → t.fade.longMark = true ∧ t.hasFlag .longFade = true) ∧
    (s.fade.entryAcc.duration < s.settings.fadeLimit →
      t.fade.longMark = false ∧ t.hasFlag .longFade = s.hasFlag .longFade) := by
  dsimp only
  rw [← nextFadeId_eq]
  refine ⟨rfl, rfl, rfl, rfl, ?_, rfl, fun h => if_neg (Nat.not_le_of_lt h), fun h => ⟨if_pos h, fun hlog => ?_⟩,
    s.openFade_once⟩
  · simp [s.openFade_hasFlag]
  · simp [s.openFade_hasFlag, h, hlog]

/-! ## A fade closes as RECOVERED (R45) -/

/-- R45, R53: the flags of a close. -/
theorem State.recoverFade_hasFlag (s : State) (o : OpenFade) (g : EventFlag) : (s.recoverFade o).hasFlag g =
    (s.hasFlag g || (logFull s.fade.log && decide (g.num = EventFlag.fadeLogDrop.num)) ||
      decide (g.num = EventFlag.fadeEnd.num)) := by
  rw [State.recoverFade, State.hasFlag_raise, State.hasFlag_raiseIf]
  rfl

/-- R45, R46, R53: the entry that completes fade_persist in a fade: the test of the duration, and then the close. -/
theorem State.recoverFade_closes (s : State) (o : OpenFade) (ho : s.fade.openFade = some o)
    (hlog : s.fade.log.length ≤ 32) :
    let t := s.testLongFade.recoverFade o
    s.TestsLong t o.duration ∧
    t.fade.openFade = none ∧ t.fade.entryLen = 0 ∧ t.fade.exitLen = 0 ∧ t.fade.idCounter = s.fade.idCounter ∧
    t.hasFlag .fadeEnd = true ∧ (32 ≤ s.fade.log.length → t.hasFlag .fadeLogDrop = true) ∧
    (s.fade.log.length < 32 → t.hasFlag .fadeLogDrop = s.hasFlag .fadeLogDrop) ∧
    ∃ r, t.fade.log = newest 32 (s.fade.log ++ [r]) ∧ r.Closes o s.settings .recovered := by
  have hlong : (s.testLongFade.recoverFade o).hasFlag .longFade = s.testLongFade.hasFlag .longFade := by
    simp [State.recoverFade_hasFlag, EventFlag.num]
  dsimp only
  refine ⟨?_, rfl, rfl, rfl, rfl, by simp [State.recoverFade_hasFlag], fun hfull => ?_, fun hroom => ?_,
    _, appendLog_newest _ _ hlog, o.close_closes _ _⟩
  · unfold State.TestsLong
    rw [hlong]
    exact s.testLongFade_testsLong o ho
  · simp [State.recoverFade_hasFlag, logFull, Config.fadeLogCapacity, hfull]
  · have hnot : logFull s.fade.log = false := decide_eq_false (Nat.not_le_of_lt hroom)
    simp [State.recoverFade_hasFlag, State.testLongFade_hasFlag, hnot, EventFlag.num]

/-- Settles O48: the kinds of an entry in RUN, each by what its operation makes of the tracker. -/
theorem fadeOpensAndCloses : Obligations.FadeOpensAndCloses := by
  unfold Obligations.FadeOpensAndCloses
  intro s v t f gap frames takes plus nothing
  have hplus : ∀ a : RunAccumulators, plus a frames = a.add v.fadeInput false := fun a =>
    (a.add_eq v.fadeInput false).symm
  have hbegun : plus nothing 1 = RunAccumulators.empty.add v.fadeInput true :=
    (RunAccumulators.empty.add_eq v.fadeInput true).symm
  refine ⟨s.trackFade_outside v, ?_, ?_⟩
  · intro hrun hclear first run
    have ht : t = s.passClose.fadeClearEntry v.fadeInput := s.trackFade_clear v hrun hclear
    have hdeep : s.passClose.settings.fadeEnter ≤ depth s.passClose.settings.clearSky v.fadeInput.s ↔
        s.settings.fadeEnter ≤ s.settings.clearSky - v.history.s := .rfl
    have hext : s.passClose.fade.extendEntryRun v.fadeInput = { f with
        entryLen := f.entryLen + 1, entryFirst := first, entryAcc := run, justClosed := false } := by
      rw [FadeTracker.extendEntryRun_eq, ← hbegun, ← hplus]
      rfl
    refine ⟨fun hs hlast => ?_, fun hs hmore => ?_, fun hpos hs => ?_⟩
    · rw [ht, s.passClose.fadeClearEntry_opens v.fadeInput (hdeep.2 (by omega)) hlast, hext]
      exact State.openFade_opens { s.passClose with fade := { f with
        entryLen := f.entryLen + 1, entryFirst := first, entryAcc := run, justClosed := false } }
    · rw [ht, s.passClose.fadeClearEntry_extends v.fadeInput (hdeep.2 (by omega)) hmore, hext]
      rfl
    · rw [ht, s.passClose.fadeClearEntry_ends v.fadeInput (mt hdeep.1 (by omega))]
      exact ⟨hclear, rfl, rfl, rfl⟩
  · intro o hrun hopen shallow long
    have ht : t = s.passClose.fadeOpenEntry o v.fadeInput := s.trackFade_open v o hrun hopen
    have hshallow : shallow ↔ depth s.passClose.settings.clearSky v.fadeInput.s ≤ s.passClose.settings.fadeExit :=
      Nat.sub_le_iff_le_add'.symm
    simp only [long]
    rw [ht]
    refine ⟨fun hs hlast hlog => ?_, fun hs hmore => ?_, fun hs => ?_⟩
    · rw [s.passClose.fadeOpenEntry_recovers o v.fadeInput (hshallow.1 hs) hlast]
      exact State.recoverFade_closes { s.passClose with fade := s.passClose.fade.extendExitRun v.fadeInput } o hopen
        hlog
    · rw [s.passClose.fadeOpenEntry_extends o v.fadeInput (hshallow.1 hs) hmore, hplus, hplus]
      exact ⟨State.testLongFade_testsLong { s.passClose with fade := s.passClose.fade.extendExitRun v.fadeInput } o
        hopen, hopen, rfl, rfl, s.passClose.fade.extendExitRun_acc v.fadeInput⟩
    · rw [s.passClose.fadeOpenEntry_deepens o v.fadeInput (mt hshallow.2 hs)]
      exact ⟨_, o.foldIn_foldsTo f,
        State.testLongFade_testsLong { s.passClose with fade := s.passClose.fade.deepen o v.fadeInput } _ rfl,
        rfl, rfl, congrArg some (OpenFade.add_eq _ _)⟩

end Sys2Proof.Machine
end

section
/-! FORCE: its payload, its checks in their order, and what a mode that is taken replaces (R72). -/

namespace Sys2Proof.Machine

/-- A byte names the profile whose index it holds. -/
theorem profileOf_of_toNat {b : Byte} {c : Profile} (h : b.toNat = c.val) : profileOf b = some c :=
  (dif_pos (h ▸ c.isLt)).trans (congrArg some (Fin.ext h))

theorem profileOf_of_lt {b : Byte} (h : 15 < b.toNat) : profileOf b = none := dif_neg (by omega)

/-! ## The mode that a payload names -/

theorem forceOf_auto (p : Byte) : forceOf 0#8 p = some .auto := rfl

theorem forceOf_ceiling {p : Byte} {c : Profile} (h : p.toNat = c.val) : forceOf 1#8 p = some (.ceiling c) :=
  congrArg (·.map ForceMode.ceiling) (profileOf_of_toNat h)

theorem forceOf_pinned {p : Byte} {c : Profile} (h : p.toNat = c.val) : forceOf 2#8 p = some (.pinned c) :=
  congrArg (·.map ForceMode.pinned) (profileOf_of_toNat h)

/-- R72: a payload that names no mode: the mode is none of the three, or it is not AUTO and the profile is none of the
16. -/
theorem forceOf_none {mode p : Byte} (h : 2 < mode.toNat ∨ (mode ≠ 0#8 ∧ 15 < p.toNat)) : forceOf mode p = none := by
  unfold forceOf
  split
  case h_1 hm =>
    rcases h with h | ⟨h, -⟩
    · omega
    · exact absurd (BitVec.eq_of_toNat_eq hm) h
  case h_2 hm | h_3 hm =>
    rw [profileOf_of_lt (h.resolve_left (by omega)).2]
    rfl
  case h_4 => rfl

/-! ## The service of the request -/

section
variable {mode p : Byte} {f : ForceMode} {s : State}

theorem serveForce_malformed (h : forceOf mode p = none) : serveForce [mode, p] s = refusal .outOfRange s := by
  simp only [serveForce, show forceOf (byteAt [mode, p] 0) (byteAt [mode, p] 1) = none from h]

theorem serveForce_taken (h : forceOf mode p = some f) (hf : s.mayForce f = true) :
    serveForce [mode, p] s = done { s with decision := s.decision.setForce f } := by
  simp only [serveForce, show forceOf (byteAt [mode, p] 0) (byteAt [mode, p] 1) = some f from h, if_pos hf]

theorem serveForce_refused (h : forceOf mode p = some f) (hf : s.mayForce f = false) :
    serveForce [mode, p] s = refusal .notEnabled s := by
  simp only [serveForce, show forceOf (byteAt [mode, p] 0) (byteAt [mode, p] 1) = some f from h, hf, Bool.false_eq_true,
    if_false]

end

/-- Settles O25: the mode that the payload names, and the set a PINNED is checked against. -/
theorem forceAnswers : Obligations.ForceAnswers := by
  unfold Obligations.ForceAnswers
  intro s m mode p hready hkind hpayload taken set
  have hexec : exec .force s = .next ((serveForce [mode, p] s.dropRequest).state.queueReply
      (replyTo m (serveForce [mode, p] s.dropRequest).status (serveForce [mode, p] s.dropRequest).payload)) := by
    have htake := hready.take_eq serveForce
    rw [hkind, hpayload] at htake
    exact congrArg Host.Outcome.next htake
  rw [hexec]
  refine ⟨fun hbad => ?_, fun hmode => ?_, fun c hc => ⟨fun hmode => ?_, fun hmode hin => ?_, fun hmode hout => ?_⟩⟩
  · rw [serveForce_malformed (forceOf_none hbad)]
    rfl
  · subst hmode
    rw [serveForce_taken (forceOf_auto p) rfl]
    rfl
  · subst hmode
    rw [serveForce_taken (forceOf_ceiling hc) rfl]
    rfl
  · subst hmode
    rw [serveForce_taken (s := s.dropRequest) (forceOf_pinned hc) hin]
    rfl
  · subst hmode
    rw [serveForce_refused (s := s.dropRequest) (forceOf_pinned hc) hout]
    rfl

end Sys2Proof.Machine
end

section
/-! The Decision Unit at an entry: the members that its targets are, the condition and the result of each rule, and what
becomes of the up candidate and the up dwell (R60 to R71, R73 to R75). -/

namespace Sys2Proof.Machine

/-! ## Members of a set: the highest and the next -/

/-- In a list in order, a search finds the member that comes before every other one of its kind. -/
theorem find?_first {α : Type} {R : α → α → Prop} {q : α → Bool} {a : α} {l : List α} (hl : l.Pairwise R)
    (h : l.find? q = some a) : q a = true ∧ ∀ b ∈ l, q b = true → a = b ∨ R a b := by
  refine ⟨List.find?_some h, ?_⟩
  induction l with
  | nil => cases h
  | cons x l ih =>
    obtain ⟨hx, hl⟩ := List.pairwise_cons.1 hl
    rw [List.find?_cons] at h
    split at h
    · cases h
      exact fun b hb _ => (List.mem_cons.1 hb).imp Eq.symm (hx b)
    · next hq =>
      rintro b hb hqb
      rcases List.mem_cons.1 hb with rfl | hb
      · rw [hq] at hqb; cases hqb
      · exact ih hl h b hb hqb

theorem profilesDown_sorted : profilesDown.Pairwise (· > ·) := by decide

theorem profilesUp_sorted : profilesUp.Pairwise (· < ·) := by decide

theorem mem_profilesDown (p : Profile) : p ∈ profilesDown := by revert p; decide

theorem mem_profilesUp (p : Profile) : p ∈ profilesUp := by revert p; decide

/-- `j` is the highest member of `n` that meets the condition. -/
def IsHighest (n : ProfileSet) (meets : Profile → Prop) (j : Profile) : Prop :=
  inSet n j = true ∧ meets j ∧ ∀ k, inSet n k = true → meets k → k ≤ j

section
variable {n : ProfileSet} {meets : Profile → Prop} {q : Profile → Bool}

/-- A search from the top for a member that meets a condition finds the highest one, or leaves profile 0 where there is
none. -/
theorem findDown_getD (hq : ∀ k, q k = true ↔ inSet n k = true ∧ meets k) :
    IsHighest n meets ((profilesDown.find? q).getD 0) ∨
      (profilesDown.find? q).getD 0 = 0 ∧ ∀ k, inSet n k = true → ¬ meets k := by
  cases h : profilesDown.find? q with
  | none =>
    have hnone := List.find?_eq_none.1 h
    exact .inr ⟨rfl, fun k hk hm => hnone k (mem_profilesDown k) ((hq k).2 ⟨hk, hm⟩)⟩
  | some j =>
    obtain ⟨hj, hfirst⟩ := find?_first profilesDown_sorted h
    obtain ⟨hin, hmeets⟩ := (hq j).1 hj
    refine .inl ⟨hin, hmeets, fun k hk hm => ?_⟩
    rcases hfirst k (mem_profilesDown k) ((hq k).2 ⟨hk, hm⟩) with rfl | hlt
    · exact le_rfl
    · exact le_of_lt hlt

/-- With a member that meets the condition at hand, the search finds the highest one. -/
theorem findDown_isHighest (hq : ∀ k, q k = true ↔ inSet n k = true ∧ meets k) {p : Profile}
    (hp : inSet n p = true) (hm : meets p) : IsHighest n meets ((profilesDown.find? q).getD 0) :=
  (findDown_getD hq).resolve_right fun h => h.2 p hp hm

theorem highestUpTo_isHighest (h0 : inSet n 0 = true) (c : Profile) : IsHighest n (· ≤ c) (highestUpTo n c) :=
  findDown_isHighest (fun k => by simp) h0 (Fin.zero_le c)

theorem highestBelow_isHighest (h0 : inSet n 0 = true) {r : Profile} (hr : 0 < r) :
    IsHighest n (· < r) (highestBelow n r) :=
  findDown_isHighest (fun k => by simp) h0 hr

/-- R74: a pin that is a member is itself the highest member up to it. -/
theorem pinnedTarget_isHighest (h0 : inSet n 0 = true) (p : Profile) : IsHighest n (· ≤ p) (pinnedTarget n p) := by
  unfold pinnedTarget
  split
  · next hp => exact ⟨hp, le_rfl, fun _ _ hk => hk⟩
  · exact highestUpTo_isHighest h0 p

theorem nextAbove_eq_some_iff {r j : Profile} : nextAbove n r = some j ↔
    inSet n j = true ∧ r < j ∧ ∀ k, inSet n k = true → r < k → j ≤ k := by
  have least : ∀ {j}, nextAbove n r = some j →
      inSet n j = true ∧ r < j ∧ ∀ k, inSet n k = true → r < k → j ≤ k := by
    intro j h
    obtain ⟨hj, hfirst⟩ := find?_first profilesUp_sorted h
    obtain ⟨hin, hlt⟩ : inSet n j = true ∧ r < j := by simpa using hj
    refine ⟨hin, hlt, fun k hk hr => ?_⟩
    rcases hfirst k (mem_profilesUp k) (by simp [hk, hr]) with rfl | hjk
    · exact le_rfl
    · exact le_of_lt hjk
  refine ⟨least, fun ⟨hin, hlt, hle⟩ => ?_⟩
  cases h : nextAbove n r with
  | none => exact absurd (List.find?_eq_none.1 h j (mem_profilesUp j)) (by simp [hin, hlt])
  | some i =>
    obtain ⟨hi, hri, hmin⟩ := least h
    exact congrArg some (le_antisymm (hmin j hin hlt) (hle i hi hri))

end

/-! ## The targets and the conditions of the rules (R63, R65 to R69, R73) -/

section
variable (i : DecisionInput) (f : ForceMode)

/-- R63: what a downshift target is. -/
def DecisionInput.IsDown (j : Profile) : Prop :=
  IsHighest i.negotiated (fun k => k < i.r ∧ i.tDown k < i.p) j ∨
    j = 0 ∧ ∀ k, inSet i.negotiated k = true → k < i.r → i.p ≤ i.tDown k

/-- R65: P is below the comparison point, which is 0 or more. -/
def DecisionInput.Urgent : Prop :=
  i.set.urgentMargin ≤ i.tDown i.r ∧ i.p < i.tDown i.r - i.set.urgentMargin

/-- Neither STARVED nor URGENT applies. -/
def DecisionInput.Calm : Prop := i.starved = false ∧ ¬ i.Urgent

/-- Neither of them applies, in AUTO or CEILING. -/
def DecisionInput.Free : Prop := i.Calm ∧ ∀ p, f ≠ .pinned p

/-- R66: r is above the ceiling `c`. -/
def DecisionInput.Above (c : Profile) : Prop := f = .ceiling c ∧ c < i.r

/-- R66: r is out of the set, or above the ceiling. -/
def DecisionInput.Outside : Prop := ¬ inSet i.negotiated i.r = true ∨ ∃ c, i.Above f c

/-- R68: the condition of rule ERROR. -/
def DecisionUnit.Failing (w : DecisionUnit) (i : DecisionInput) : Prop :=
  i.set.errorOverride = true ∧ 2 ≤ w.errorWindow.count true ∧ 0 < i.r

/-- R69: rules 1 to 5 do not apply, in AUTO or CEILING. -/
def DecisionUnit.Rising (w : DecisionUnit) (i : DecisionInput) (f : ForceMode) : Prop :=
  i.Free f ∧ ¬ i.Outside f ∧ w.downDwell < i.set.downDwell ∧ ¬ w.Failing i

variable {i f}

theorem DecisionInput.urgentApplies_iff : i.urgentApplies = true ↔ i.Urgent := by
  simp [DecisionInput.urgentApplies, DecisionInput.Urgent]

theorem DecisionInput.downshiftTarget_isDown : i.IsDown i.downshiftTarget := by
  have h := findDown_getD (n := i.negotiated) (meets := fun k => k < i.r ∧ i.tDown k < i.p)
    (q := fun j => inSet i.negotiated j && decide (j < i.r) && decide (i.tDown j < i.p)) (fun k => by simp [and_assoc])
  exact h.imp_right (And.imp_right fun hnone k hk hr => not_lt.1 fun hp => hnone k hk ⟨hr, hp⟩)

/-- A downshift target is a member, and not above r. -/
theorem DecisionInput.IsDown.member {j : Profile} (h : i.IsDown j) (h0 : inSet i.negotiated 0 = true) :
    inSet i.negotiated j = true := by
  rcases h with ⟨hin, -⟩ | ⟨rfl, -⟩
  · exact hin
  · exact h0

theorem DecisionInput.IsDown.le {j : Profile} (h : i.IsDown j) : j ≤ i.r := by
  rcases h with ⟨-, ⟨hlt, -⟩, -⟩ | ⟨rfl, -⟩
  · exact le_of_lt hlt
  · exact Fin.zero_le _

/-- R73: a target above the ceiling is replaced. -/
theorem boundTarget_above {n : ProfileSet} {c j : Profile} (h0 : inSet n 0 = true) (hf : f = .ceiling c) (h : c < j) :
    IsHighest n (· ≤ c) (boundTarget f n j) := by
  subst hf
  rw [show boundTarget (.ceiling c) n j = highestUpTo n c from if_pos h]
  exact highestUpTo_isHighest h0 c

theorem boundTarget_within {j : Profile} (n : ProfileSet) (h : ∀ c, f = .ceiling c → j ≤ c) :
    boundTarget f n j = j := by
  cases f with
  | ceiling c => exact if_neg (not_lt.2 (h c rfl))
  | auto => rfl
  | pinned p => rfl

/-- R73: a member bounded is a member, and not above the ceiling. -/
theorem boundTarget_member {n : ProfileSet} {j : Profile} (h0 : inSet n 0 = true) (hj : inSet n j = true) :
    inSet n (boundTarget f n j) = true ∧ ∀ c, f = .ceiling c → boundTarget f n j ≤ c := by
  by_cases h : ∀ c, f = .ceiling c → j ≤ c
  · rw [boundTarget_within n h]
    exact ⟨hj, h⟩
  · push Not at h
    obtain ⟨c, rfl, hc⟩ := h
    obtain ⟨hin, hle, -⟩ := boundTarget_above h0 rfl hc
    refine ⟨hin, ?_⟩
    rintro _ ⟨⟩
    exact hle

/-! ### OUT_OF_SET (R66) -/

theorem DecisionInput.outOfSet_above {c : Profile} (h : i.Above f c) :
    i.outOfSet f = some (highestUpTo i.negotiated c) := by
  obtain ⟨rfl, hc⟩ := h
  exact if_pos hc

theorem DecisionInput.outOfSet_left (hf : ∀ p, f ≠ .pinned p) (ha : ∀ c, ¬ i.Above f c)
    (hr : ¬ inSet i.negotiated i.r = true) : i.outOfSet f = some (highestBelow i.negotiated i.r) := by
  cases f with
  | auto => exact if_neg hr
  | ceiling c => exact (if_neg fun h => ha c ⟨rfl, h⟩).trans (if_neg hr)
  | pinned p => exact absurd rfl (hf p)

theorem DecisionInput.outOfSet_none (h : ¬ i.Outside f) : i.outOfSet f = none := by
  simp only [DecisionInput.Outside, not_or, not_not, not_exists] at h
  obtain ⟨hr, ha⟩ := h
  cases f with
  | auto => exact if_pos hr
  | ceiling c => exact (if_neg fun h => ha c ⟨rfl, h⟩).trans (if_pos hr)
  | pinned p => rfl

/-- Where r is out of the set, r is not profile 0. -/
theorem DecisionInput.pos_of_not_member (h0 : inSet i.negotiated 0 = true) (hr : ¬ inSet i.negotiated i.r = true) :
    0 < i.r :=
  Fin.pos_iff_ne_zero.2 fun h => hr (h ▸ h0)

/-- R66: the target of OUT_OF_SET: up to a ceiling that is exceeded, and otherwise below r. -/
theorem DecisionInput.outOfSet_outside (h0 : inSet i.negotiated 0 = true) (hf : ∀ p, f ≠ .pinned p)
    (ho : i.Outside f) : ∃ j, i.outOfSet f = some j ∧
      (∀ c, i.Above f c → IsHighest i.negotiated (· ≤ c) j) ∧
      ((∀ c, ¬ i.Above f c) → IsHighest i.negotiated (· < i.r) j) := by
  by_cases ha : ∃ c, i.Above f c
  · obtain ⟨c, hc⟩ := ha
    refine ⟨_, outOfSet_above hc, fun d hd => ?_, fun hnone => absurd hc (hnone c)⟩
    obtain rfl : c = d := ForceMode.ceiling.inj (hc.1.symm.trans hd.1)
    exact highestUpTo_isHighest h0 c
  · have ha' := not_exists.1 ha
    have hr := ho.resolve_right ha
    exact ⟨_, outOfSet_left hf ha' hr, fun c hc => absurd hc (ha' c),
      fun _ => highestBelow_isHighest h0 (pos_of_not_member h0 hr)⟩

/-! ### The up candidate (R69) -/

theorem DecisionInput.upCandidate_eq_some_iff {j : Profile} : i.upCandidate f = some j ↔
    inSet i.negotiated j = true ∧ i.r < j ∧ (∀ k, inSet i.negotiated k = true → i.r < k → j ≤ k) ∧
      ∀ c, f = .ceiling c → j ≤ c := by
  have key : i.upCandidate f = some j ↔ nextAbove i.negotiated i.r = some j ∧ ∀ c, f = .ceiling c → j ≤ c := by
    unfold DecisionInput.upCandidate
    split
    · next a c ha =>
      simp only [ha, ForceMode.ceiling.injEq, forall_eq', Option.ite_none_right_eq_some, Option.some.injEq]
      exact ⟨fun ⟨h, he⟩ => ⟨he, he ▸ h⟩, fun ⟨he, h⟩ => ⟨he ▸ h, he⟩⟩
    · next hno => exact ⟨fun h => ⟨h, fun c hc => absurd hc (hno _ _ h)⟩, And.left⟩
  rw [key, nextAbove_eq_some_iff]
  simp only [and_assoc]

end

/-! ## The first five rules, in their order (R63) -/

section
variable {w : DecisionUnit} {i : DecisionInput} {f : ForceMode}

theorem DecisionUnit.firstRules_starved (h : i.starved = true) :
    w.firstRules i = some { rule := .starved, target := 0, urgent := true } := if_pos h

theorem DecisionUnit.firstRules_urgent (hs : i.starved = false) (hu : i.Urgent) : w.firstRules i =
    some { rule := .urgent, target := boundTarget w.force i.negotiated i.downshiftTarget, urgent := true } := by
  rw [DecisionUnit.firstRules, if_neg (by simp [hs]), if_pos (DecisionInput.urgentApplies_iff.2 hu)]

theorem DecisionUnit.firstRules_pinned {p : Profile} (hf : w.force = .pinned p) (hc : i.Calm) : w.firstRules i =
    some { rule := .pinned, target := pinnedTarget i.negotiated p, urgent := false } := by
  obtain ⟨hs, hu⟩ := hc
  rw [DecisionUnit.firstRules, if_neg (by simp [hs]), if_neg (mt DecisionInput.urgentApplies_iff.1 hu), hf]

/-- Rules 3 to 5, in AUTO and CEILING. -/
theorem DecisionUnit.firstRules_free (h : i.Free w.force) : w.firstRules i =
    match i.outOfSet w.force with
    | some t => some { rule := .outOfSet, target := t, urgent := false }
    | none =>
      if i.set.downDwell ≤ w.downDwell then
        some { rule := .downshift, target := i.downshiftTarget, urgent := false }
      else if i.set.errorOverride ∧ 2 ≤ uncorrectableCount w.errorWindow ∧ 0 < i.r then
        some { rule := .error, target := highestBelow i.negotiated i.r, urgent := false }
      else none := by
  obtain ⟨⟨hs, hu⟩, hp⟩ := h
  rw [DecisionUnit.firstRules, if_neg (by simp [hs]), if_neg (mt DecisionInput.urgentApplies_iff.1 hu)]
  cases hf : w.force with
  | pinned p => exact absurd hf (hp p)
  | auto => rfl
  | ceiling c => rfl

theorem DecisionUnit.firstRules_outOfSet {t : Profile} (h : i.Free w.force) (ho : i.outOfSet w.force = some t) :
    w.firstRules i = some { rule := .outOfSet, target := t, urgent := false } := by
  rw [firstRules_free h, ho]

theorem DecisionUnit.firstRules_downshift (h : i.Free w.force) (ho : ¬ i.Outside w.force)
    (hd : i.set.downDwell ≤ w.downDwell) :
    w.firstRules i = some { rule := .downshift, target := i.downshiftTarget, urgent := false } := by
  rw [firstRules_free h, DecisionInput.outOfSet_none ho]
  exact if_pos hd

theorem DecisionUnit.firstRules_error (h : i.Free w.force) (ho : ¬ i.Outside w.force)
    (hd : w.downDwell < i.set.downDwell) (he : w.Failing i) :
    w.firstRules i = some { rule := .error, target := highestBelow i.negotiated i.r, urgent := false } := by
  rw [firstRules_free h, DecisionInput.outOfSet_none ho]
  exact (if_neg (not_le.2 hd)).trans (if_pos he)

theorem DecisionUnit.firstRules_rising (h : w.Rising i w.force) : w.firstRules i = none := by
  obtain ⟨hfree, ho, hd, he⟩ := h
  rw [firstRules_free hfree, DecisionInput.outOfSet_none ho]
  exact (if_neg (not_le.2 hd)).trans (if_neg he)

/-- What every result keeps: its target is a member, or r itself where no rule applies; STARVED and URGENT alone are
urgent; and the ceiling is not exceeded (R63, R71, R73). -/
structure DecisionResult.Sound (res : DecisionResult) (i : DecisionInput) (f : ForceMode) : Prop where
  member : inSet i.negotiated res.target = true ∨ res.rule = .none ∧ res.target = i.r
  urgent : res.urgent = true ↔ res.rule = .starved ∨ res.rule = .urgent
  bound  : ∀ c, f = .ceiling c → res.target ≤ c

/-- In AUTO and CEILING a target that is not above r exceeds no ceiling that r keeps. -/
theorem DecisionInput.within_ceiling {j : Profile} (ho : ¬ i.Outside f) (hj : j ≤ i.r) (c : Profile)
    (hc : f = .ceiling c) : j ≤ c :=
  hj.trans (not_lt.1 fun h => ho (.inr ⟨c, hc, h⟩))

theorem DecisionResult.Sound.outOfSet {j : Profile} (h0 : inSet i.negotiated 0 = true) (hf : ∀ p, f ≠ .pinned p)
    (ho : i.Outside f) (hj : i.outOfSet f = some j) :
    DecisionResult.Sound { rule := .outOfSet, target := j, urgent := false } i f := by
  obtain ⟨j', hj', hup, hbelow⟩ := DecisionInput.outOfSet_outside h0 hf ho
  obtain rfl : j' = j := Option.some.inj (hj'.symm.trans hj)
  by_cases ha : ∃ c, i.Above f c
  · obtain ⟨c, hc⟩ := ha
    obtain ⟨hin, hle, -⟩ := hup c hc
    refine ⟨.inl hin, by simp, fun d hd => ?_⟩
    obtain rfl : c = d := ForceMode.ceiling.inj (hc.1.symm.trans hd)
    exact hle
  · have ha' := not_exists.1 ha
    obtain ⟨hin, hlt, -⟩ := hbelow ha'
    exact ⟨.inl hin, by simp, fun c hc => (le_of_lt hlt).trans (not_lt.1 fun h => ha' c ⟨hc, h⟩)⟩

/-- R63: where no first rule applies the unit may rise; otherwise a first rule gives a sound result. -/
theorem DecisionUnit.firstRules_sound (w : DecisionUnit) (i : DecisionInput) (h0 : inSet i.negotiated 0 = true) :
    w.Rising i w.force ∨ ∃ res, w.firstRules i = some res ∧ res.Sound i w.force := by
  by_cases hs : i.starved = true
  · exact .inr ⟨_, firstRules_starved hs, .inl h0, by simp, fun c _ => Fin.zero_le c⟩
  rw [Bool.not_eq_true] at hs
  by_cases hu : i.Urgent
  · obtain ⟨hin, hle⟩ := boundTarget_member (f := w.force) h0 (DecisionInput.downshiftTarget_isDown.member h0)
    exact .inr ⟨_, firstRules_urgent hs hu, .inl hin, by simp, hle⟩
  by_cases hp : ∃ p, w.force = .pinned p
  · obtain ⟨p, hp⟩ := hp
    obtain ⟨hin, -⟩ := pinnedTarget_isHighest h0 p
    exact .inr ⟨_, firstRules_pinned hp ⟨hs, hu⟩, .inl hin, by simp, fun c hc => by simp [hp] at hc⟩
  have hfree : i.Free w.force := ⟨⟨hs, hu⟩, not_exists.1 hp⟩
  by_cases ho : i.Outside w.force
  · obtain ⟨j, hj, -⟩ := DecisionInput.outOfSet_outside h0 hfree.2 ho
    exact .inr ⟨_, firstRules_outOfSet hfree hj, .outOfSet h0 hfree.2 ho hj⟩
  by_cases hd : i.set.downDwell ≤ w.downDwell
  · have hdown := i.downshiftTarget_isDown
    exact .inr ⟨_, firstRules_downshift hfree ho hd, .inl (hdown.member h0), by simp,
      DecisionInput.within_ceiling ho hdown.le⟩
  rw [not_le] at hd
  by_cases he : w.Failing i
  · have ⟨_, _, hr⟩ := he
    obtain ⟨hin, hlt, -⟩ := highestBelow_isHighest h0 hr
    exact .inr ⟨_, firstRules_error hfree ho hd he, .inl hin, by simp,
      DecisionInput.within_ceiling ho (le_of_lt hlt)⟩
  · exact .inl ⟨hfree, ho, hd, he⟩

/-! ## UPSHIFT and NONE (R69 to R71) -/

theorem DecisionUnit.lastRules_upshift {j : Profile} (hj : w.upCandidate = some j) (hd : i.set.upDwell ≤ w.upDwell) :
    w.lastRules i = { rule := .upshift, target := j, urgent := false } := by
  simp only [DecisionUnit.lastRules, hj, if_pos hd]

theorem DecisionUnit.lastRules_none (h : w.upCandidate = none ∨ w.upDwell < i.set.upDwell) :
    w.lastRules i = { rule := .none, target := i.r, urgent := false } := by
  cases hj : w.upCandidate with
  | none => simp only [DecisionUnit.lastRules, hj]
  | some j =>
    have hd : w.upDwell < i.set.upDwell := h.resolve_left (by simp [hj])
    simp only [DecisionUnit.lastRules, hj, if_neg (not_le.2 hd)]

theorem DecisionUnit.lastRules_sound (hcand : w.upCandidate = i.upCandidate f) (ho : ¬ i.Outside f) :
    (w.lastRules i).Sound i f := by
  by_cases h : w.upCandidate = none ∨ w.upDwell < i.set.upDwell
  · rw [lastRules_none h]
    exact ⟨.inr ⟨rfl, rfl⟩, by simp, DecisionInput.within_ceiling ho le_rfl⟩
  · rw [not_or, not_lt] at h
    obtain ⟨hsome, hd⟩ := h
    obtain ⟨j, hj⟩ := Option.ne_none_iff_exists'.1 hsome
    obtain ⟨hin, -, -, hle⟩ := DecisionInput.upCandidate_eq_some_iff.1 (hcand.symm.trans hj)
    rw [lastRules_upshift hj hd]
    exact ⟨.inl hin, by simp, hle⟩

theorem DecisionUnit.upshiftCondition_iff {cand : Option Profile} (hs : i.starved = false) :
    w.upshiftCondition i cand = true ↔ (∃ j, cand = some j ∧ i.tUp j ≤ i.s) ∧ w.holdoff = 0 ∧ i.fade = false ∧
      w.errorWindow.count true = 0 ∧ w.downDwell = 0 := by
  cases cand <;> simp [DecisionUnit.upshiftCondition, uncorrectableCount, hs, and_assoc]

end

/-! ## The unit after an entry (R60 to R62) -/

section
variable {u : DecisionUnit} {i : DecisionInput}

/-- R61: the window of 8 with the entry. -/
theorem appendWindow_eq (errors : List Bool) (e : Bool) :
    appendWindow errors e = (if errors.length < 8 then errors else errors.tail) ++ [e] := by
  by_cases h : errors.length < 8
  · rw [appendWindow, if_neg (not_le.2 h), if_pos h]
  · rw [appendWindow, if_pos (not_lt.1 h), if_neg h, List.drop_one]

@[simp] theorem DecisionUnit.handle_force : (u.handle i).force = u.force := by
  unfold DecisionUnit.handle; dsimp only; split <;> rfl

@[simp] theorem DecisionUnit.handle_holdoff : (u.handle i).holdoff = u.holdoff - 1 := by
  unfold DecisionUnit.handle; dsimp only; split <;> rfl

@[simp] theorem DecisionUnit.handle_errorWindow :
    (u.handle i).errorWindow = appendWindow u.errorWindow i.uncorrectable := by
  unfold DecisionUnit.handle; dsimp only; split <;> rfl

@[simp] theorem DecisionUnit.handle_downDwell :
    (u.handle i).downDwell = if i.p < i.tDown i.r then min 15 (u.downDwell + 1) else 0 := by
  unfold DecisionUnit.handle; dsimp only; split <;> rfl

/-- The first five rules read of the unit what the bookkeeping alone writes, so they may be read off the unit that is
left. -/
theorem DecisionUnit.firstRules_bookkeep : (u.bookkeep i).firstRules i = (u.handle i).firstRules i := by
  unfold DecisionUnit.firstRules
  simp only [handle_force, handle_errorWindow, handle_downDwell]
  rfl

theorem DecisionUnit.upshiftCondition_bookkeep (cand : Option Profile) :
    (u.bookkeep i).upshiftCondition i cand = (u.handle i).upshiftCondition i cand := by
  unfold DecisionUnit.upshiftCondition
  rw [handle_holdoff, handle_errorWindow, handle_downDwell]
  rfl

/-- Where one of rules 1 to 5 applies it gives the result, and the up candidate and the up dwell are cleared. -/
theorem DecisionUnit.handle_first {res : DecisionResult} (h : (u.handle i).firstRules i = some res) :
    (u.handle i).last = some res ∧ (u.handle i).upCandidate = none ∧ (u.handle i).upDwell = 0 := by
  rw [← firstRules_bookkeep] at h
  simp only [DecisionUnit.handle, h, and_self]

/-- Where none of them applies, the up candidate and the up dwell are updated before the result is taken. -/
theorem DecisionUnit.handle_rising (h : (u.handle i).Rising i u.force) :
    (u.handle i).last = some ((u.handle i).lastRules i) ∧ (u.handle i).upCandidate = i.upCandidate u.force ∧
    (u.handle i).upDwell = if (u.handle i).upshiftCondition i (u.handle i).upCandidate then
      min 4095 ((if (u.handle i).upCandidate = u.upCandidate then u.upDwell else 0) + 1) else 0 := by
  have hnone : (u.bookkeep i).firstRules i = none :=
    firstRules_bookkeep.trans (firstRules_rising (handle_force.symm ▸ h))
  have key : u.handle i = { (u.bookkeep i).updateUp i with last := some (((u.bookkeep i).updateUp i).lastRules i) } := by
    simp only [DecisionUnit.handle, hnone]
  have hcand : (u.handle i).upCandidate = i.upCandidate u.force := by rw [key]; rfl
  refine ⟨?_, hcand, ?_⟩
  · rw [key]; rfl
  · rw [← upshiftCondition_bookkeep, hcand, key]; rfl

/-- Every entry leaves a sound result. -/
theorem DecisionUnit.handle_sound (h0 : inSet i.negotiated 0 = true) :
    ∃ res, (u.handle i).last = some res ∧ res.Sound i u.force := by
  rcases (u.handle i).firstRules_sound i h0 with hr | ⟨res, hres, hsound⟩
  · rw [handle_force] at hr
    obtain ⟨hlast, hcand, -⟩ := handle_rising hr
    obtain ⟨-, ho, -⟩ := hr
    exact ⟨_, hlast, lastRules_sound hcand ho⟩
  · rw [handle_force] at hsound
    exact ⟨res, (handle_first hres).1, hsound⟩

/-- Where one of rules 1 to 5 applies, the up candidate and the up dwell are cleared. -/
theorem DecisionUnit.handle_clears (h0 : inSet i.negotiated 0 = true) (h : ¬ (u.handle i).Rising i u.force) :
    (u.handle i).upCandidate = none ∧ (u.handle i).upDwell = 0 := by
  rcases (u.handle i).firstRules_sound i h0 with hr | ⟨res, hres, -⟩
  · exact absurd (handle_force ▸ hr) h
  · exact (handle_first hres).2

end

/-! ## The unit in RUN, and the obligation (R57, R75) -/

/-- A target that differs from r is handed on. -/
theorem State.runDecision_run (s : State) (v : EntryValues) (h : s.link.state = .run) {res : DecisionResult}
    (hres : (s.decision.handle (s.decisionInput v)).last = some res) : s.runDecision v =
      if res.target = s.hop.r then { s with decision := s.decision.handle (s.decisionInput v) }
      else State.handTarget { s with decision := s.decision.handle (s.decisionInput v) }
        { profile := res.target, urgent := res.urgent } := by
  simp only [State.runDecision, if_pos h, hres]

/-- Every entry leaves a result. -/
theorem DecisionUnit.handle_last (u : DecisionUnit) (i : DecisionInput) : ∃ res, (u.handle i).last = some res := by
  unfold DecisionUnit.handle; dsimp only; split <;> exact ⟨_, rfl⟩

/-- Settles O49: each rule by its own equation, what every result keeps by the case split over the rules, and the up
candidate and the up dwell by whether one of rules 1 to 5 applies. -/
theorem decisionTargets : Obligations.DecisionTargets := by
  unfold Obligations.DecisionTargets
  refine ⟨?_, fun s v => ⟨s.runDecision_outside v, fun hrun => ?_⟩⟩
  · intro u i h0 t inN tDown highest down below upTo above errors urgent calm free outside failing rising
    have hforce : t.force = u.force := DecisionUnit.handle_force
    obtain ⟨res, hlast, hsound⟩ := DecisionUnit.handle_sound (u := u) h0
    have hgives : ∀ {x}, t.firstRules i = some x → res = x := fun h =>
      Option.some.inj (hlast.symm.trans (DecisionUnit.handle_first h).1)
    refine ⟨⟨hforce, DecisionUnit.handle_holdoff, DecisionUnit.handle_errorWindow.trans (appendWindow_eq _ _),
      DecisionUnit.handle_downDwell⟩, ⟨res, hlast, fun hs => ?_, fun hs hu => ?_, fun p hc hp => ?_, fun hfree ho => ?_,
      fun hfree ho hd => ?_, fun hfree ho hd he => ?_, fun hr => ?_, hsound.member, hsound.urgent, hsound.bound⟩,
      DecisionUnit.handle_clears h0, fun hr => ?_⟩
    · exact hgives (DecisionUnit.firstRules_starved hs)
    · have hres := hgives (DecisionUnit.firstRules_urgent hs hu)
      rw [hforce] at hres
      subst hres
      exact ⟨rfl, rfl, i.downshiftTarget, i.downshiftTarget_isDown, fun hle => boundTarget_within _ hle,
        fun c hc hlt => boundTarget_above h0 hc hlt⟩
    · obtain rfl := hgives (DecisionUnit.firstRules_pinned (hforce.trans hp) hc)
      exact ⟨rfl, rfl, pinnedTarget_isHighest h0 p⟩
    · obtain ⟨j, hj, hup, hbelow⟩ := DecisionInput.outOfSet_outside h0 hfree.2 ho
      obtain rfl := hgives (DecisionUnit.firstRules_outOfSet (hforce ▸ hfree) (hforce ▸ hj))
      exact ⟨rfl, rfl, hup, hbelow⟩
    · obtain rfl := hgives (DecisionUnit.firstRules_downshift (hforce ▸ hfree) (hforce ▸ ho) hd)
      exact ⟨rfl, rfl, i.downshiftTarget_isDown⟩
    · obtain rfl := hgives (DecisionUnit.firstRules_error (hforce ▸ hfree) (hforce ▸ ho) hd he)
      obtain ⟨-, -, hpos⟩ := he
      exact ⟨rfl, rfl, highestBelow_isHighest h0 hpos⟩
    · obtain rfl : res = t.lastRules i := Option.some.inj (hlast.symm.trans (DecisionUnit.handle_rising hr).1)
      exact ⟨fun j hj hd => DecisionUnit.lastRules_upshift hj hd, fun h => DecisionUnit.lastRules_none h⟩
    · obtain ⟨-, hcand, hdwell⟩ := DecisionUnit.handle_rising hr
      obtain ⟨⟨⟨hs, -⟩, -⟩, -⟩ := hr
      have hcounts := DecisionUnit.upshiftCondition_iff (w := t) (cand := t.upCandidate) hs
      refine ⟨fun j => ?_, fun hc => hdwell.trans (if_pos (hcounts.2 hc)),
        fun hc => hdwell.trans (if_neg (mt hcounts.1 hc))⟩
      rw [hcand]
      exact DecisionInput.upCandidate_eq_some_iff
  · obtain ⟨res, hres⟩ := s.decision.handle_last (s.decisionInput v)
    exact ⟨res, hres, s.runDecision_run v hrun hres⟩

end Sys2Proof.Machine
end

section
/-! The request lane and the transmit record, kept consistent by every step (R87, R97, R106, R110, R118). -/

namespace Sys2Proof.Machine

/-! ## Passages of the link (R97, R116) -/

/-- What a passage of the link makes of the two: the lane stands or takes its initial value (R97), and the transmit
record stands or gives up its switches (R116). -/
structure State.Relinks (s t : State) : Prop where
  lane : t.hop.lane = s.hop.lane ∨ t.hop.lane = .initial
  tx   : t.tx = s.tx ∨ t.tx = s.tx.linkEvent

theorem State.Relinks.same {s t : State} (hl : t.hop = s.hop) (ht : t.tx = s.tx) : s.Relinks t :=
  ⟨.inl (by rw [hl]), .inl ht⟩

theorem State.linkLoss_relinks (s : State) : s.Relinks s.linkLoss := ⟨.inr rfl, .inr rfl⟩

theorem State.linkEntry_relinks (s : State) (good : Option Metrics) : s.Relinks (s.linkEntry good) := by
  unfold State.linkEntry
  split
  · split <;> exact .same rfl rfl
  · split <;> exact .same rfl rfl
  · unfold State.watchLink
    dsimp only
    split <;> [exact ⟨.inr rfl, .inr rfl⟩; exact .same rfl rfl]
  all_goals exact .same rfl rfl

theorem State.searchReached_relinks (s : State) : s.Relinks s.searchReached := by
  unfold State.searchReached
  split
  · exact s.linkLoss_relinks
  · exact ⟨.inr rfl, .inl rfl⟩
  all_goals exact .same rfl rfl

theorem State.enterSearch_relinks (s : State) : s.Relinks s.enterSearch := by
  rw [s.enterSearch_eq]
  exact ⟨(State.searchReached_relinks _).lane, (State.searchReached_relinks _).tx⟩

/-! ## The request lane (R87, R97) -/

namespace RequestLane

variable {l : RequestLane}

theorem initial_lawful : RequestLane.initial.Lawful :=
  ⟨by decide, by decide, by decide, by decide, by decide, by decide⟩

theorem idle_steady_lawful : (l.idle .steady).Lawful :=
  ⟨iff_of_false nofun nofun, fun _ => rfl, fun _ => rfl, fun _ => rfl, Nat.zero_le 2, fun _ => rfl⟩

theorem backOff_lawful (timer : Nat) : (l.backOff timer).Lawful :=
  ⟨iff_of_false nofun nofun, fun _ => rfl, fun _ => rfl, fun h => absurd rfl h, Nat.zero_le 2, fun _ => rfl⟩

theorem ask_lawful (a : PendingAsk) (shown : Seq) (askTimeout : Nat) : (l.ask a shown askTimeout).Lawful :=
  ⟨iff_of_true rfl (.inl rfl), fun h => absurd rfl h, fun _ => rfl, fun _ => rfl, Nat.zero_le 2, fun _ => rfl⟩

/-- R88: the mark of a timer just loaded is no part of the law. -/
theorem Lawful.marked (h : l.Lawful) (b : Bool) : RequestLane.Lawful { l with fresh := b } :=
  { h with }

/-- R91: an AGREE in ASKING. -/
theorem Lawful.agreed (h : l.Lawful) (hl : l.state = .asking) (n : Nat) : RequestLane.Lawful { l with
    state := .switching, answerTimer := 0, timeouts := 0, deadline := n, fresh := true } where
  pending := iff_of_true (h.pending.2 (.inl hl)) (.inr rfl)
  answer _ := rfl
  deadline hn := absurd rfl hn
  backoff _ := h.backoff (by simp [hl])
  timeouts := Nat.zero_le 2
  counted _ := rfl

/-- R92: an ask renewed under a new number. -/
theorem Lawful.renewed (h : l.Lawful) (hl : l.state = .asking) (ht : l.timeouts + 1 < 3) (n : Nat) (q : Seq) :
    RequestLane.Lawful { l with timeouts := l.timeouts + 1, seq := q, answerTimer := n, fresh := true } where
  __ := h
  answer hn := absurd hl hn
  timeouts := Nat.le_of_lt_succ ht
  counted hn := absurd hl hn

end RequestLane

theorem State.Relinks.lane_lawful {s t : State} (k : s.Relinks t) (h : s.hop.lane.Lawful) : t.hop.lane.Lawful := by
  rcases k.lane with hl | hl <;> rw [hl] <;> [exact h; exact RequestLane.initial_lawful]

theorem HopSignalling.examineAnswer_lawful (h : HopSignalling) (set : Settings) (hl : h.lane.Lawful) :
    (h.examineAnswer set).lane.Lawful := by
  unfold HopSignalling.examineAnswer
  split
  · split
    · next hstate => exact hl.agreed hstate _
    · exact RequestLane.backOff_lawful _
    · exact hl
  · exact hl

theorem State.expireAnswerTimer_lane_lawful (s : State) (hl : s.hop.lane.Lawful) (ha : s.hop.lane.state = .asking) :
    s.expireAnswerTimer.hop.lane.Lawful := by
  unfold State.expireAnswerTimer
  dsimp only
  split
  · next ht => exact hl.renewed ha ht _ _
  · exact RequestLane.backOff_lawful _

/-- R88, R92, R93, R96: a timer falls in its own state alone, and each expiry leaves the lane lawful. -/
theorem State.advanceLaneTimer_lane_lawful (s : State) (h : s.hop.lane.Lawful) :
    s.advanceLaneTimer.hop.lane.Lawful := by
  unfold State.advanceLaneTimer
  dsimp only
  split
  · exact h
  · split
    · exact h
    · next hl =>
      split <;> [exact s.expireAnswerTimer_lane_lawful h hl; exact { h with answer := fun hn => absurd hl hn }]
    · next hl =>
      split <;> [exact RequestLane.idle_steady_lawful; exact { h with deadline := fun hn => absurd hl hn }]
    · next hl =>
      split <;> [exact RequestLane.idle_steady_lawful; exact { h with backoff := fun hn => absurd hl hn }]

theorem State.changeR_lane_lawful (s : State) (new : Profile) (h : s.hop.lane.Lawful) :
    (s.changeR new).hop.lane.Lawful := by
  show (if s.hop.lane.completes new then s.hop.lane.idle .steady else s.hop.lane).Lawful
  split <;> [exact RequestLane.idle_steady_lawful; exact h]

/-! R98, R102: an answer, and what follows the staged switch, leave the request lane alone. -/

@[simp] theorem State.updateFar_lane (s : State) (good : Option Metrics) :
    (s.updateFar good).hop.lane = s.hop.lane := by
  cases good <;> rfl

@[simp] theorem State.answerGood_lane (s : State) (good : Option Metrics) :
    (s.answerGood good).hop.lane = s.hop.lane := by
  unfold State.answerGood State.examineAsk; dsimp only; (repeat' split) <;> rfl

@[simp] theorem State.removeStagedUpshift_lane (s : State) : s.removeStagedUpshift.hop.lane = s.hop.lane := by
  unfold State.removeStagedUpshift; (repeat' split) <;> rfl

@[simp] theorem State.limitWork_lane (s : State) (txlim : Bool) : (s.limitWork txlim).hop.lane = s.hop.lane := by
  unfold State.limitWork; dsimp only; (repeat' split) <;> simp

@[simp] theorem State.idlePower_lane (s : State) (txlim : Bool) : (s.idlePower txlim).hop.lane = s.hop.lane := by
  rcases s.idlePower_cases txlim with h | h <;> rw [h] <;> simp

@[simp] theorem State.cancelStaged_lane (s : State) (n : ProfileSet) : (s.cancelStaged n).hop.lane = s.hop.lane := by
  unfold State.cancelStaged; (repeat' split) <;> rfl

@[simp] theorem State.settleDrop_lane (s : State) (p : Profile) : (s.settleDrop p).hop.lane = s.hop.lane := by
  unfold State.settleDrop; (repeat' split) <;> rfl

@[simp] theorem State.dropActive_lane (s : State) (n : ProfileSet) : (s.dropActive n).hop.lane = s.hop.lane := by
  unfold State.dropActive; dsimp only; split <;> simp

@[simp] theorem State.countStaged_lane (s : State) : s.countStaged.hop.lane = s.hop.lane := by
  unfold State.countStaged; dsimp only; (repeat' split) <;> simp

/-- R88: the five steps of an entry, one after another. -/
theorem State.signal_lane_lawful (s : State) (good : Option Metrics) (h : s.hop.lane.Lawful) :
    (s.signal good).hop.lane.Lawful := by
  have hfollow (g : Option Metrics) (s : State) (h : s.hop.lane.Lawful) : (s.followGood g).hop.lane.Lawful := by
    unfold State.followGood State.followHeader
    (repeat' split) <;> [exact h; exact s.changeR_lane_lawful _ h; exact h]
  have hexamine (g : Option Metrics) (s : State) (h : s.hop.lane.Lawful) : (s.examineGood g).hop.lane.Lawful := by
    unfold State.examineGood
    split <;> [exact s.hop.examineAnswer_lawful _ h; exact h]
  have hadvance (s : State) (h : s.hop.lane.Lawful) : s.advanceInRun.hop.lane.Lawful := by
    unfold State.advanceInRun
    split <;> [exact s.advanceLaneTimer_lane_lawful h; exact h; exact h; exact h]
  unfold State.signal
  dsimp only
  rw [State.answerGood_lane]
  exact hadvance _ (hexamine _ _ (hfollow _ _ (by simpa using h)))

theorem State.handTarget_lane_lawful (s : State) (target : PendingAsk) (h : s.hop.lane.Lawful) :
    (s.handTarget target).hop.lane.Lawful := by
  unfold State.handTarget
  split <;> [exact RequestLane.ask_lawful _ _ _; exact h]

theorem State.runDecision_lane_lawful (s : State) (v : EntryValues) (h : s.hop.lane.Lawful) :
    (s.runDecision v).hop.lane.Lawful := by
  unfold State.runDecision
  dsimp only
  (repeat' split) <;> [exact h; exact State.handTarget_lane_lawful _ _ h; exact h; exact h]

theorem State.stopLink_lane_lawful (s : State) (h : s.hop.lane.Lawful) : s.stopLink.hop.lane.Lawful := by
  unfold State.stopLink
  split <;> [exact RequestLane.initial_lawful; exact h]

theorem laneLawful_entryLaw : EntryLaw (fun s => s.hop.lane.Lawful) Entry.InRange where
  outer _ _ _ _ h := h
  clearFresh _ h := h.marked false
  estimate _ _ _ h := by simpa using h
  trackFade _ _ h := by simpa using h
  runDecision s v h := s.runDecision_lane_lawful v h
  signal s good h := s.signal_lane_lawful good h
  powerReceive _ _ h := by simpa using h
  powerTransmit _ _ h := by simpa using h
  monitorEntry _ _ h := h
  takeFarMask _ _ h := by simpa using h
  swapAtEntry _ h := by simpa using h
  linkEntry s good h := (s.linkEntry_relinks good).lane_lawful h

theorem laneLawful_stepLaw : StepLaw (fun s => s.hop.lane.Lawful) where
  toEntryLaw := laneLawful_entryLaw
  commands _ _ h := h
  intake _ _ _ _ _ h := h
  silence _ _ _ h := h
  lock _ _ _ _ _ h := h
  enterResync _ _ h := h
  enterSearch s _ h := s.enterSearch_relinks.lane_lawful h
  trySwap _ h := by simpa using h
  fixEcho _ _ h := h
  slotSwitches _ _ h := by simpa [State.slotSwitches] using h
  slotFinish _ _ _ _ h := by simpa [State.slotFinish] using h
  slotIdle _ _ _ _ h := by simpa [State.slotIdle] using h
  reply _ _ _ h := h
  setValue _ _ _ h := by simpa using h
  writeShadow _ _ _ h := h
  acceptSwap _ _ h := h
  installSwap _ _ _ h := h
  startLink _ _ _ := RequestLane.initial_lawful
  stopLink s _ h := s.stopLink_lane_lawful h
  setForce _ _ h := h
  addPilot _ h := h
  readFades _ _ h := h
  dropSwap _ h := h
  expireAnswer s hl h := s.expireAnswerTimer_lane_lawful h hl
  missSwitch _ _ _ := RequestLane.idle_steady_lawful
  endBackoff _ _ _ := RequestLane.idle_steady_lawful
  expireAcq _ _ _ := RequestLane.initial_lawful
  acqTimer _ _ _ h := h
  expirePilot _ h := h
  endSecond _ h := h
  millis _ _ h := h
  holdReset _ _ h := h
  restartNow _ _ _ := RequestLane.initial_lawful
  powerOn _ _ _ _ := RequestLane.initial_lawful
  release _ _ _ _ _ _ := RequestLane.initial_lawful

/-! ## The transmit record (R106, R110, R118) -/

/-! ### The lead of a staged switch (R176) -/

/-- R176: switch_lead lies in a range that R110 allows a countdown. -/
def Settings.LeadFits (x : Settings) : Prop := 1 ≤ x.switchLead ∧ x.switchLead ≤ 15

theorem Settings.Lawful.leadFits {x : Settings} (h : x.Lawful) : x.LeadFits := by
  obtain ⟨v, hv, hlo, hhi, -⟩ := h.inRange 18 (by decide) (by decide)
  cases hv
  constructor <;> omega

theorem Settings.put_switchLead (x : Settings) (id : Nat) (v : Int) (h : id ≠ 18) :
    (x.put id v).switchLead = x.switchLead := by
  unfold Settings.put
  split <;> simp_all

theorem State.setValue_leadFits (s : State) (id : Nat) (v : Int) (h : s.settings.LeadFits) :
    (s.setValue id v).2.settings.LeadFits := by
  by_cases hid : id = 18
  · subst hid
    obtain ⟨hlo, hhi⟩ := clampInt_range 2 15 v (by decide)
    show 1 ≤ (clampInt 2 15 v).toNat ∧ (clampInt 2 15 v).toNat ≤ 15
    omega
  · have hput (w : Int) : (s.settings.put id w).LeadFits := by
      unfold Settings.LeadFits
      rwa [Settings.put_switchLead _ _ _ hid]
    unfold State.setValue
    dsimp only
    (repeat' split) <;> [exact h; exact hput _; exact h; exact hput _; exact h]

/-! ### What is staged, and the counts (R106, R110, R118) -/

/-- R110: a switch that may stand staged while `active` is the active profile. -/
def StagedSwitch.Fits (g : StagedSwitch) (active : Profile) : Prop :=
  g.profile ≠ active ∧ 1 ≤ g.countdown ∧ g.countdown ≤ 15

namespace TransmitRecord.Lawful

variable {t u : TransmitRecord}

/-- The law stands where the counts stay in range and what is staged is gone, or as it was. -/
theorem keep (h : t.Lawful) (ho : u.owed ≤ 8) (hh : u.haltCount ≤ 32)
    (hs : u.staged = none ∨ u.staged = t.staged ∧ u.active = t.active) : u.Lawful where
  staged g hg := by
    rcases hs with hs | ⟨hs, ha⟩
    · simp [hs] at hg
    · rw [ha]; exact h.staged g (hs ▸ hg)
  owed := ho
  halt := hh

theorem stage (h : t.Lawful) (o : Option StagedSwitch) (ho : ∀ g, o = some g → g.Fits t.active) :
    TransmitRecord.Lawful { t with staged := o } :=
  ⟨ho, h.owed, h.halt⟩

/-- R116: a link event. -/
theorem linkEvent (h : t.Lawful) : t.linkEvent.Lawful := h.keep h.owed h.halt (.inl rfl)

theorem initial (n : Nat) : (TransmitRecord.initial n).Lawful := ⟨nofun, Nat.zero_le 8, Nat.zero_le 32⟩

end TransmitRecord.Lawful

/-- R99, R110: the switch that an AGREE to an ASK stages. -/
theorem State.answerAsk_fits (s : State) (p : Profile) (q : Seq) (h : s.tx.Lawful)
    (hlead : s.settings.LeadFits) (g : StagedSwitch) (hg : (s.answerAsk p q).staged = some g) :
    g.Fits s.tx.active := by
  unfold State.answerAsk at hg
  split at hg
  · exact h.staged g hg
  split at hg
  · exact h.staged g hg
  split at hg
  · cases hg
  next hidle =>
  split at hg
  · exact h.staged g hg
  next hnone =>
  (repeat' split at hg) <;> [exact h.staged g hg; exact h.staged g hg; exact h.staged g hg; skip]
  cases hg
  exact ⟨fun hp => hidle ⟨hp, not_not.1 hnone⟩, hlead⟩

/-- R100, R110: the switch that an AGREE to an URGENT stages. -/
theorem State.answerUrgent_fits (s : State) (p : Profile) (q : Seq) (h : s.tx.Lawful)
    (hlead : s.settings.LeadFits) (g : StagedSwitch) (hg : (s.answerUrgent p q).staged = some g) :
    g.Fits s.tx.active := by
  unfold State.answerUrgent at hg
  dsimp only at hg
  generalize (if inSet s.table.negotiated p then p else highestUpTo s.table.negotiated p) = p' at hg
  split at hg
  · exact h.staged g hg
  split at hg
  · exact s.answerAsk_fits p' q h hlead g hg
  split at hg
  · cases hg
  next hp => cases hg; exact ⟨hp, show 1 ≤ 1 ∧ 1 ≤ 15 by decide⟩

/-- R109: after a drop nothing is staged for the profile that has become active. -/
theorem State.settleDrop_tx_lawful (s : State) (p : Profile) (h : s.tx.Lawful) :
    (State.settleDrop p { s with tx := { s.tx with active := p } }).tx.Lawful := by
  unfold State.settleDrop
  split
  · next hs => exact h.keep h.owed h.halt (.inl hs)
  · next g hs =>
    split
    · exact h.keep h.owed h.halt (.inl rfl)
    · next hp =>
      obtain ⟨-, hcount⟩ := h.staged g hs
      exact ⟨fun g' hg' => by cases hs.symm.trans hg'; exact ⟨hp, hcount⟩, h.owed, h.halt⟩

theorem State.cancelStaged_tx_lawful (s : State) (n : ProfileSet) (h : s.tx.Lawful) : (s.cancelStaged n).tx.Lawful := by
  unfold State.cancelStaged
  (repeat' split) <;> [exact h; exact h; exact h.keep h.owed h.halt (.inl rfl)]

theorem State.dropActive_tx_lawful (s : State) (n : ProfileSet) (h : s.tx.Lawful) : (s.dropActive n).tx.Lawful := by
  unfold State.dropActive
  dsimp only
  split
  · exact h
  · simpa using s.settleDrop_tx_lawful (highestBelow n s.tx.active) h

/-- R110: a staged switch executes, or counts down and stays staged. -/
theorem State.countStaged_tx_lawful (s : State) (h : s.tx.Lawful) : s.countStaged.tx.Lawful := by
  unfold State.countStaged
  split
  · exact h
  · next g hs =>
    dsimp only
    split
    · simpa using h.keep (u := { s.tx with active := g.profile, staged := none }) h.owed h.halt (.inl rfl)
    · next hc =>
      obtain ⟨hp, -, hle⟩ := h.staged g hs
      refine h.stage _ fun g' hg' => ?_
      cases hg'
      refine ⟨hp, ?_, ?_⟩ <;> dsimp only <;> omega

theorem State.removeStagedUpshift_tx_lawful (s : State) (h : s.tx.Lawful) : s.removeStagedUpshift.tx.Lawful := by
  unfold State.removeStagedUpshift
  (repeat' split) <;> [exact h; exact h.keep h.owed h.halt (.inl rfl); exact h]

theorem State.limitWork_tx_lawful (s : State) (txlim : Bool) (h : s.tx.Lawful) : (s.limitWork txlim).tx.Lawful := by
  unfold State.limitWork
  dsimp only
  generalize (if txlim = true then LimitSample.asserted else .released) = x
  cases s.power.limitChanges x with
  | false => exact h
  | true =>
    cases x with
    | asserted =>
      dsimp only
      split <;> [exact State.removeStagedUpshift_tx_lawful _ h; exact h]
    | released => exact h

theorem State.idlePower_tx_lawful (s : State) (txlim : Bool) (h : s.tx.Lawful) : (s.idlePower txlim).tx.Lawful := by
  rcases s.idlePower_cases txlim with hc | hc <;> rw [hc]
  · exact s.limitWork_tx_lawful txlim h
  · exact s.setIdleAtten.limitWork_tx_lawful txlim h

theorem State.addPilot_tx_lawful (s : State) (h : s.tx.Lawful) : s.addPilot.tx.Lawful :=
  h.keep (Nat.min_le_left 8 _) h.halt (.inr ⟨rfl, rfl⟩)

theorem State.reloadPilotTimer_tx_lawful (s : State) (h : s.tx.Lawful) : s.reloadPilotTimer.tx.Lawful :=
  h.keep h.owed h.halt (.inr ⟨rfl, rfl⟩)

theorem State.expirePilotTimer_tx_lawful (s : State) (h : s.tx.Lawful) : s.expirePilotTimer.tx.Lawful :=
  h.keep (Nat.min_le_left 8 _) h.halt (.inr ⟨rfl, rfl⟩)

theorem State.advancePilotTimer_tx_lawful (s : State) (h : s.tx.Lawful) : s.advancePilotTimer.tx.Lawful := by
  unfold State.advancePilotTimer
  (repeat' split) <;> [exact h; exact s.expirePilotTimer_tx_lawful h; exact h.keep h.owed h.halt (.inr ⟨rfl, rfl⟩)]

theorem State.payPilot_tx_lawful (s : State) (pilot : Bool) (h : s.tx.Lawful) : (s.payPilot pilot).tx.Lawful := by
  have := h.owed
  refine h.keep ?_ h.halt (.inr ⟨rfl, rfl⟩)
  simp only [State.payPilot]
  split <;> omega

theorem State.send_tx_lawful (s : State) (d : Descriptor) (h : s.tx.Lawful) : (s.send d).tx.Lawful := by
  have := h.halt
  refine h.keep h.owed ?_ (.inr ⟨rfl, rfl⟩)
  simp only [State.send]
  split <;> omega

theorem State.Relinks.tx_lawful {s t : State} (k : s.Relinks t) (h : s.tx.Lawful) : t.tx.Lawful := by
  rcases k.tx with ht | ht <;> rw [ht] <;> [exact h; exact h.linkEvent]

theorem State.stopLink_tx_lawful (s : State) (h : s.tx.Lawful) : s.stopLink.tx.Lawful := by
  unfold State.stopLink
  split <;> exact h.keep h.owed (Nat.le_refl 32) (.inl rfl)

/-- R99, R100: the answer to an ask leaves what is staged fit for the active profile. -/
theorem State.answerGood_tx_lawful (s : State) (good : Option Metrics) (h : s.tx.Lawful)
    (hlead : s.settings.LeadFits) : (s.answerGood good).tx.Lawful := by
  unfold State.answerGood State.examineAsk
  dsimp only
  (repeat' split) <;> [exact h; exact h; exact h; exact h.stage _ (s.answerAsk_fits _ _ h hlead);
    exact h.stage _ (s.answerUrgent_fits _ _ h hlead)]

theorem State.signal_tx_lawful (s : State) (good : Option Metrics) (h : s.tx.Lawful) (hlead : s.settings.LeadFits) :
    (s.signal good).tx.Lawful :=
  State.answerGood_tx_lawful _ _ (by simpa using h) (by simpa using hlead)

theorem State.setValue_tx_lawful (s : State) (id : Nat) (v : Int) (h : s.tx.Lawful) :
    (s.setValue id v).2.tx.Lawful := by
  unfold State.setValue
  dsimp only
  (repeat' split) <;> exact h.keep h.owed h.halt (.inr ⟨rfl, rfl⟩)

/-- R110, R176: the law of the transmit record, with the range that the lead of its staged switch is taken from. -/
def State.StagesInRange (s : State) : Prop := s.settings.LeadFits ∧ s.tx.Lawful

/-- An operation that leaves the settings alone and keeps the transmit record lawful keeps the law. -/
theorem State.StagesInRange.keep {s t : State} (h : s.StagesInRange) (ht : s.tx.Lawful → t.tx.Lawful)
    (hset : t.settings = s.settings := by simp) : t.StagesInRange :=
  ⟨hset ▸ h.1, ht h.2⟩

theorem State.StagesInRange.reset {s : State} (hset : s.settings.LeadFits) {n : Nat} (ht : s.tx = .initial n) :
    s.StagesInRange :=
  ⟨hset, ht ▸ .initial n⟩

theorem Settings.default_leadFits : Settings.default.LeadFits := by unfold Settings.LeadFits; decide

theorem stagesInRange_entryLaw : EntryLaw State.StagesInRange Entry.InRange where
  outer _ _ _ _ h := h
  clearFresh _ h := h
  estimate _ _ _ h := h.keep (by simp)
  trackFade _ _ h := h.keep (by simp)
  runDecision _ _ h := h.keep (by simp)
  signal s good h := h.keep fun ht => s.signal_tx_lawful good ht h.1
  powerReceive _ _ h := h.keep (by simp)
  powerTransmit _ _ h := h.keep (by simp)
  monitorEntry _ _ h := h
  takeFarMask _ _ h := h.keep (by simp)
  swapAtEntry _ h := h.keep (by simp)
  linkEntry s good h := h.keep (s.linkEntry_relinks good).tx_lawful

theorem stagesInRange_stepLaw : StepLaw State.StagesInRange where
  toEntryLaw := stagesInRange_entryLaw
  commands _ _ h := h
  intake _ _ _ _ _ h := h
  silence _ _ _ h := h
  lock _ _ _ _ _ h := h
  enterResync _ _ h := h
  enterSearch s _ h := h.keep s.enterSearch_relinks.tx_lawful
  trySwap _ h := h.keep (by simp)
  fixEcho _ _ h := h.keep fun ht => ht.keep ht.owed ht.halt (.inr ⟨rfl, rfl⟩)
  slotSwitches s _ h := h.keep fun ht =>
    State.countStaged_tx_lawful _ (State.dropActive_tx_lawful _ _ (s.cancelStaged_tx_lawful _ ht))
  slotFinish s _ l _ h := h.keep fun ht => State.send_tx_lawful _ _ (State.limitWork_tx_lawful _ l
    (State.payPilot_tx_lawful _ _ (State.advancePilotTimer_tx_lawful _ (s.reloadPilotTimer_tx_lawful ht))))
  slotIdle s _ l _ h := h.keep fun ht => State.send_tx_lawful _ _
    (State.idlePower_tx_lawful _ l (s.reloadPilotTimer_tx_lawful ht))
  reply _ _ _ h := h
  setValue s id v h := ⟨s.setValue_leadFits id v h.1, s.setValue_tx_lawful id v h.2⟩
  writeShadow _ _ _ h := h
  acceptSwap _ _ h := h
  installSwap _ _ _ h := h
  startLink _ _ h := h.keep fun ht => ht.keep ht.owed (Nat.zero_le 32) (.inr ⟨rfl, rfl⟩)
  stopLink s _ h := h.keep s.stopLink_tx_lawful
  setForce _ _ h := h
  addPilot s h := h.keep s.addPilot_tx_lawful
  readFades _ _ h := h
  dropSwap _ h := h
  expireAnswer _ _ h := h.keep (by simp)
  missSwitch _ _ h := h
  endBackoff _ _ h := h
  expireAcq _ _ h := h.keep (by simp)
  acqTimer _ _ _ h := h
  expirePilot s h := h.keep s.expirePilotTimer_tx_lawful
  endSecond _ h := h
  millis _ _ h := h
  holdReset _ _ h := h
  restartNow _ _ h := .reset h.1 rfl
  powerOn _ _ _ _ := .reset Settings.default_leadFits rfl
  release _ _ _ _ _ _ := .reset Settings.default_leadFits rfl

/-- Settles O57, by the packaged induction over the machine, once for the lane and once for the transmit record. -/
theorem signallingLawsAreKept : Obligations.SignallingLawsAreKept := by
  unfold Obligations.SignallingLawsAreKept
  exact fun s t he => ⟨fun h => laneLawful_stepLaw.step s t h he,
    fun hset h => (stagesInRange_stepLaw.step s t ⟨hset.leadFits, h⟩ he).2⟩

end Sys2Proof.Machine
end

section
/-! The answer to a far ask: one equation for each item of R99 and R100, and for the ask as a whole (R98). -/

namespace Sys2Proof.Machine

/-! ## An ask of kind ASK (R99) -/

section
variable {s : State} {p : Profile} {q : Seq}

theorem State.answerAsk_outside (h : s.link.state ≠ .run) : s.answerAsk p q = s.declineAsk reasonHalted := if_pos h

theorem State.answerAsk_notEnabled (hrun : s.link.state = .run) (hp : ¬ inSet s.table.negotiated p = true) :
    s.answerAsk p q = s.declineAsk reasonNotEnabled := by
  simp [State.answerAsk, hrun, hp]

theorem State.answerAsk_current (hrun : s.link.state = .run) (hin : inSet s.table.negotiated p = true)
    (hp : p = s.tx.active) (hs : s.tx.staged = none) :
    s.answerAsk p q = { kind := .agree, value := 0#4, staged := none } := by
  subst hp
  simp [State.answerAsk, hrun, hin, hs]

theorem State.answerAsk_busy (hrun : s.link.state = .run) (hin : inSet s.table.negotiated p = true)
    (hs : s.tx.staged ≠ none) : s.answerAsk p q = s.declineAsk reasonBusy := by
  simp [State.answerAsk, hrun, hin, hs]

/-- R99: the ask is for a member other than the active profile, and nothing is staged. -/
structure State.AskOpen (s : State) (p : Profile) : Prop where
  run     : s.link.state = .run
  member  : inSet s.table.negotiated p = true
  idle    : s.tx.staged = none
  changes : p ≠ s.tx.active

namespace State.AskOpen

/-- R99: the items left for an ask that is open. -/
theorem answer (h : s.AskOpen p) : s.answerAsk p q =
    if s.power.limit = .limited then s.declineAsk reasonLimited
    else if s.tx.active < p ∧ 4 ≤ s.tx.owed then s.declineAsk reasonPilotDue
    else if s.power.a < (s.row p).backoff then s.declineAsk reasonPowerLow
    else
      { kind := .agree, value := BitVec.ofNat 4 s.settings.switchLead
        staged := some { profile := p, countdown := s.settings.switchLead, seq := q } } := by
  unfold State.answerAsk
  rw [if_neg (not_not.2 h.run), if_neg (by simp [h.member]), if_neg fun hc => h.changes hc.1, if_neg (not_not.2 h.idle)]

theorem limited (h : s.AskOpen p) (hl : s.power.limit = .limited) :
    s.answerAsk p q = s.declineAsk reasonLimited :=
  h.answer.trans (if_pos hl)

theorem pilotDue (h : s.AskOpen p) (hl : s.power.limit = .released) (ho : s.tx.active < p ∧ 4 ≤ s.tx.owed) :
    s.answerAsk p q = s.declineAsk reasonPilotDue := by
  rw [h.answer, if_neg (by simp [hl]), if_pos ho]

theorem powerLow (h : s.AskOpen p) (hl : s.power.limit = .released) (ho : ¬ (s.tx.active < p ∧ 4 ≤ s.tx.owed))
    (ha : s.power.a < (s.row p).backoff) : s.answerAsk p q = s.declineAsk reasonPowerLow := by
  rw [h.answer, if_neg (by simp [hl]), if_neg ho, if_pos ha]

theorem stages (h : s.AskOpen p) (hl : s.power.limit = .released) (ho : ¬ (s.tx.active < p ∧ 4 ≤ s.tx.owed))
    (ha : (s.row p).backoff ≤ s.power.a) : s.answerAsk p q =
      { kind := .agree, value := BitVec.ofNat 4 s.settings.switchLead
        staged := some { profile := p, countdown := s.settings.switchLead, seq := q } } := by
  rw [h.answer, if_neg (by simp [hl]), if_neg ho, if_neg (Nat.not_lt.2 ha)]

end State.AskOpen

/-! ## An ask of kind URGENT (R100) -/

theorem IsHighest.eq {n : ProfileSet} {meets : Profile → Prop} {i j : Profile} (hi : IsHighest n meets i)
    (hj : IsHighest n meets j) : i = j := by
  obtain ⟨hiIn, hiMeets, hiTop⟩ := hi
  obtain ⟨hjIn, hjMeets, hjTop⟩ := hj
  exact le_antisymm (hjTop i hiIn hiMeets) (hiTop j hjIn hjMeets)

/-- R100: the profile that an URGENT ask is judged for. -/
theorem urgentProfile_eq {n : ProfileSet} {asked : Profile} (hp : IsHighest n (· ≤ asked) p) :
    (if inSet n asked then asked else highestUpTo n asked) = p := by
  obtain ⟨hin, hle, -⟩ := id hp
  split
  · next h => exact (hp.eq ⟨h, le_rfl, fun _ _ hk => hk⟩).symm
  · exact (hp.eq (findDown_isHighest (fun k => by simp) hin hle)).symm

theorem State.answerUrgent_outside (h : s.link.state ≠ .run) : s.answerUrgent p q = s.declineAsk reasonHalted :=
  if_pos h

theorem State.answerUrgent_run {asked : Profile} (hrun : s.link.state = .run)
    (hp : IsHighest s.table.negotiated (· ≤ asked) p) : s.answerUrgent asked q =
      if s.tx.active < p then s.answerAsk p q
      else if p = s.tx.active then { kind := .agree, value := 0#4, staged := none }
      else { kind := .agree, value := 1#4, staged := some { profile := p, countdown := 1, seq := q } } := by
  unfold State.answerUrgent
  rw [if_neg (not_not.2 hrun), urgentProfile_eq hp]

/-! ## The ask examined (R98) -/

theorem State.examineAsk_none (h : s.hop.far.askKind = .none) : s.examineAsk = s := by
  unfold State.examineAsk
  rw [h]
  exact ite_self s

theorem State.examineAsk_duplicate (h : s.hop.answer.lastTaken = some s.hop.far.askSeq) : s.examineAsk = s := if_pos h

theorem State.examineAsk_ask (h : s.hop.answer.lastTaken ≠ some s.hop.far.askSeq) (hk : s.hop.far.askKind = .ask) :
    s.examineAsk = s.takeAsk s.hop.far.askSeq (s.answerAsk s.hop.far.askProfile s.hop.far.askSeq) := by
  unfold State.examineAsk
  rw [hk]
  exact if_neg h

theorem State.examineAsk_urgent (h : s.hop.answer.lastTaken ≠ some s.hop.far.askSeq)
    (hk : s.hop.far.askKind = .urgent) :
    s.examineAsk = s.takeAsk s.hop.far.askSeq (s.answerUrgent s.hop.far.askProfile s.hop.far.askSeq) := by
  unfold State.examineAsk
  rw [hk]
  exact if_neg h

end

/-- Settles O50: the items of R99 once for every profile that they judge, and the ask by its kind. -/
theorem askIsAnsweredOnce : Obligations.AskIsAnsweredOnce := by
  unfold Obligations.AskIsAnsweredOnce
  intro s q kind answered declined judged
  have hanswered {o : AskOutcome} (h : s.examineAsk = s.takeAsk q o) : answered o.kind o.value o.staged := h
  have hjudged (p : Profile) (hrun : s.link.state = .run) (h : s.examineAsk = s.takeAsk q (s.answerAsk p q)) :
      judged p := by
    refine ⟨fun hn => ?_, fun hin hp hs => ?_, fun hin hs => ?_, fun hidle hl => ?_, fun hidle hl => ?_⟩
    · exact hanswered (h.trans (by rw [State.answerAsk_notEnabled hrun hn]))
    · exact hanswered (h.trans (by rw [State.answerAsk_current hrun hin hp hs]))
    · exact hanswered (h.trans (by rw [State.answerAsk_busy hrun hin hs]))
    · obtain ⟨hin, hs, hp⟩ := hidle
      exact hanswered (h.trans (by rw [State.AskOpen.limited ⟨hrun, hin, hs, hp⟩ hl]))
    · obtain ⟨hin, hs, hp⟩ := hidle
      have hopen : s.AskOpen p := ⟨hrun, hin, hs, hp⟩
      refine ⟨fun hup ho => ?_, fun ho => ⟨fun ha => ?_, fun ha => ?_⟩⟩
      · exact hanswered (h.trans (by rw [hopen.pilotDue hl ⟨hup, ho⟩]))
      · exact hanswered (h.trans (by rw [hopen.powerLow hl ho ha]))
      · exact hanswered (h.trans (by rw [hopen.stages hl ho ha]))
  refine ⟨fun h => h.elim State.examineAsk_duplicate State.examineAsk_none, fun hnew => ⟨fun hk hrun => ?_,
    fun hk hrun => hjudged _ hrun (State.examineAsk_ask hnew hk), fun hk hrun p hin hle htop => ?_⟩⟩
  · cases hkind : s.hop.far.askKind with
    | none => exact absurd hkind hk
    | ask => exact hanswered ((State.examineAsk_ask hnew hkind).trans (by rw [State.answerAsk_outside hrun]))
    | urgent => exact hanswered ((State.examineAsk_urgent hnew hkind).trans (by rw [State.answerUrgent_outside hrun]))
  · have h := State.examineAsk_urgent hnew hk
    rw [State.answerUrgent_run hrun ⟨hin, hle, htop⟩] at h
    refine ⟨fun hup => ?_, fun hp => ?_, fun hdown => ?_⟩
    · rw [if_pos hup] at h
      exact hjudged p hrun h
    · rw [if_neg (by simp [hp]), if_pos hp] at h
      exact hanswered h
    · rw [if_neg (not_lt_of_gt hdown), if_neg (ne_of_lt hdown)] at h
      exact hanswered h

end Sys2Proof.Machine
end

section
/-! The hop control word and its fields, the layout of an RX_METRICS record, and the check of a record (R80, R150, R159,
R184). -/

namespace Sys2Proof.Machine

/-! ## The codes of the hop control word (R80) -/

@[simp] theorem phaseOf_code (x : Phase) : phaseOf x.code = x := by cases x <;> decide

@[simp] theorem askKindOf_code (x : AskKind) : askKindOf x.code = x := by cases x <;> decide

@[simp] theorem answerKindOf_code (x : AnswerKind) : answerKindOf x.code = x := by cases x <;> decide

@[simp] theorem powerRequestOf_code (x : PowerRequest) : powerRequestOf x.code = x := by cases x <;> decide

@[simp] theorem code_phaseOf (c : BitVec 2) : (phaseOf c).code = c := by revert c; decide

@[simp] theorem code_powerRequestOf (c : BitVec 2) : (powerRequestOf c).code = c := by revert c; decide

theorem code_askKindOf {c : BitVec 2} (h : c ≠ 3#2) : (askKindOf c).code = c := by revert c; decide

theorem code_answerKindOf {c : BitVec 2} (h : c ≠ 3#2) : (answerKindOf c).code = c := by revert c; decide

/-! ## The fields of the hop control word (R184) -/

/-- R184: the fields stand at their bits. -/
theorem Hcw.encode_fields (h : Hcw) :
    h.encode.extractLsb' 30 2 = h.phase.code ∧ h.encode.extractLsb' 28 2 = h.askKind.code ∧
    h.encode.extractLsb' 25 3 = h.askSeq ∧ h.encode.extractLsb' 21 4 = BitVec.ofNat 4 h.askProfile.val ∧
    h.encode.extractLsb' 19 2 = h.ansKind.code ∧ h.encode.extractLsb' 16 3 = h.ansSeq ∧
    h.encode.extractLsb' 12 4 = h.ansValue ∧ h.encode.extractLsb' 10 2 = h.powerReq.code ∧
    h.encode.extractLsb' 0 8 = h.capsByte := by
  unfold Hcw.encode
  refine ⟨?_, ?_, ?_, ?_, ?_, ?_, ?_, ?_, ?_⟩
  all_goals simp only [extract_low, BitVec.extractLsb'_append_eq_of_le, Nat.le_refl, Nat.reduceLeDiff, Nat.reduceSub,
    BitVec.extractLsb'_eq_self]

theorem Hcw.encode_marks (h : Hcw) : h.encode.getLsbD 9 = h.fade ∧ h.encode.getLsbD 8 = h.capsHalf := by
  unfold Hcw.encode
  constructor <;> simp only [bit_low, bit_above, Nat.le_refl, Nat.reduceLeDiff, Nat.reduceSub]

/-- R184: the fields come back from the word. -/
theorem Hcw.decode_encode (h : Hcw) : Hcw.decode h.encode = h := by
  obtain ⟨hphase, haskKind, haskSeq, haskProfile, hansKind, hansSeq, hansValue, hpower, hcaps⟩ := h.encode_fields
  obtain ⟨hfade, hhalf⟩ := h.encode_marks
  have hprofile : (BitVec.ofNat 4 h.askProfile.val).toFin = h.askProfile := by simp
  unfold Hcw.decode
  rw [hphase, haskKind, haskSeq, haskProfile, hansKind, hansSeq, hansValue, hpower, hcaps, hfade, hhalf, hprofile]
  simp

/-- A bit as a field of its own. -/
theorem ofBool_getLsbD {n : Nat} (w : BitVec n) (i : Nat) : BitVec.ofBool (w.getLsbD i) = w.extractLsb' i 1 := by
  apply BitVec.eq_of_getLsbD_eq
  intro j hj
  obtain rfl : j = 0 := by omega
  simp

/-- R80, R184: the word comes back from its fields, where it holds no fourth code of a kind. -/
theorem Hcw.encode_decode (w : HcwWord) (hask : w.extractLsb' 28 2 ≠ 3#2) (hans : w.extractLsb' 19 2 ≠ 3#2) :
    (Hcw.decode w).encode = w := by
  have hprofile (x : BitVec 4) : BitVec.ofNat 4 x.toFin.val = x := BitVec.eq_of_toNat_eq (by simp)
  unfold Hcw.encode Hcw.decode
  dsimp only
  rw [code_phaseOf, code_askKindOf hask, code_answerKindOf hans, code_powerRequestOf, ofBool_getLsbD, ofBool_getLsbD,
    hprofile]
  have join {i j m n : Nat} := @BitVec.extractLsb'_append_extractLsb'_eq_extractLsb' 32 i j m n w
  rw [join, join, join, join, join, join, join, join, join, join]
  · exact BitVec.extractLsb'_eq_self
  all_goals rfl

/-! ## An RX_METRICS record (R159, R184) -/

theorem clampNat_eq (lo hi : Nat) (v : Int) (h : lo ≤ hi) :
    (clampNat lo hi v : Int) = max (lo : Int) (min (hi : Int) v) := by
  unfold clampNat
  rw [clampInt_eq _ _ _ (by omega)]
  omega

/-- R159: the measurements of one branch, brought into range. -/
theorem branchAt_fields (bs : List Byte) (i : Nat) :
    ((branchAt bs i).snr : Int) = max 0 (min 500 (wordAt bs i).toInt) ∧
    (branchAt bs i).rsl = max (-400) (min (-40) (wordAt bs (i + 2)).toInt) ∧
    (branchAt bs i).stress = (byteAt bs (i + 4)).toNat ∧
    ((branchAt bs i).pilotSnr : Int) = max 0 (min 500 (wordAt bs (i + 5)).toInt) :=
  ⟨clampNat_eq 0 500 _ (by decide), clampInt_eq _ _ _ (by decide), rfl, clampNat_eq 0 500 _ (by decide)⟩

/-- Two pairs of bytes joined. -/
theorem append_pairs (a b c d : Byte) : (a ++ b) ++ (c ++ d) = a ++ b ++ c ++ d := by
  rw [BitVec.append_assoc (x₁ := a ++ b) (x₂ := c), BitVec.cast_eq]

/-- R184: the four bytes of a double, the highest first. -/
theorem doubleAt_eq (bs : List Byte) (i : Nat) :
    doubleAt bs i = byteAt bs (i + 3) ++ byteAt bs (i + 2) ++ byteAt bs (i + 1) ++ byteAt bs i :=
  append_pairs (byteAt bs (i + 3)) (byteAt bs (i + 2)) (byteAt bs (i + 1)) (byteAt bs i)

/-- R183: the profile index in the low half of a byte. -/
theorem lowNibble_val (b : Byte) : ((b.extractLsb' 0 4).toFin).val = b.toNat % 16 := by
  simp

/-! ## The check (R150) -/

/-- A word of two bytes, written. -/
theorem le16_append (x y : Byte) : le16 (x ++ y) = [y, x] := by
  unfold le16
  rw [extract_low, BitVec.extractLsb'_append_eq_of_le (Nat.le_refl 8), Nat.sub_self, BitVec.extractLsb'_eq_self]

theorem le16_injective : Function.Injective le16 := by
  intro v w h
  rw [← join16 v, ← join16 w]
  simp_all [le16]

/-- A record's last two bytes are the word that stands there, written. -/
theorem drop_eq_le16 (bs : List Byte) (n : Nat) (hn : 2 ≤ n) (h : bs.length = n) :
    bs.drop (n - 2) = le16 (wordAt bs (n - 2)) := by
  unfold wordAt byteAt
  rw [le16_append, List.getD_eq_getElem _ _ (by omega), List.getD_eq_getElem _ _ (by omega),
    List.drop_eq_getElem_cons (by omega), List.drop_eq_getElem_cons (by omega), List.drop_eq_nil_of_le (by omega)]

/-- R150: a good check. -/
theorem goodRecord_iff (bs : List Byte) (n : Nat) (hn : 2 ≤ n) : goodRecord n bs = true ↔
    bs.length = n ∧ bs.drop (n - 2) = le16 (crc16 (bs.take (n - 2))) := by
  unfold goodRecord
  rw [Bool.and_eq_true, beq_iff_eq, beq_iff_eq]
  refine and_congr_right fun h => ?_
  rw [drop_eq_le16 bs n hn h, le16_injective.eq_iff]

/-- R150: the register takes the most significant bit first. -/
theorem crcShift_eq : crcShift =
    fun c : BitVec 16 => if c.getLsbD 15 then (c <<< 1) ^^^ 0x1021#16 else c <<< 1 := by
  funext c
  unfold crcShift
  rw [BitVec.msb_eq_getLsbD_last]

/-- A byte in the upper half of the register. -/
theorem setWidth_shift (b : Byte) : b.setWidth 16 <<< 8 = b ++ 0#8 := by
  rw [BitVec.shiftLeft_eq_concat_of_lt (by decide), BitVec.cast_eq]
  congr 1
  apply BitVec.eq_of_getLsbD_eq
  intro i hi
  simp [hi]
  omega

/-- R150: one byte more. -/
theorem crc16_append (bs : List Byte) (b : Byte) :
    crc16 (bs ++ [b]) = Nat.repeat crcShift 8 (crc16 bs ^^^ (b ++ 0#8)) := by
  unfold crc16
  rw [List.foldl_append, ← setWidth_shift]
  rfl

/-- Settles O52: the fields of the word both ways, the offsets of the record, and the check byte by byte. -/
theorem hcwRoundTrip : Obligations.HcwRoundTrip := by
  unfold Obligations.HcwRoundTrip
  refine ⟨Hcw.decode_encode, Hcw.encode_decode, fun h => ?_, fun bs => ?_, fun _ _ => rfl,
    goodRecord_iff, fun _ => rfl, rfl, fun bs b => crcShift_eq ▸ crc16_append bs b⟩
  · obtain ⟨hphase, haskKind, haskSeq, haskProfile, hansKind, hansSeq, hansValue, hpower, hcaps⟩ := h.encode_fields
    obtain ⟨hfade, hhalf⟩ := h.encode_marks
    exact ⟨hphase, haskKind, haskSeq, haskProfile, hansKind, hansSeq, hansValue, hpower, hfade, hhalf, hcaps⟩
  · exact ⟨rfl, rfl, rfl, rfl, rfl, rfl, lowNibble_val _, branchAt_fields bs 5, branchAt_fields bs 12,
      congrArg Hcw.decode (doubleAt_eq bs 19)⟩

end Sys2Proof.Machine
end

section
/-! The Hop Signalling Unit at an entry: each of its five steps by cases, a target handed to the request lane, and the
rows of the expiries (R83 to R96). -/

namespace Sys2Proof.Machine

section
variable {s : State} {m : Metrics}

/-! ## The steps that an entry makes (R88) -/

theorem State.signal_none (h : s.link.state ≠ .config) : s.signal none = s.advanceInRun := by
  unfold State.signal
  rw [if_neg h]
  rfl

theorem State.signal_some (h : s.link.state ≠ .config) : s.signal (some m) =
    (((s.updateFar (some m)).followGood (some m)).examineGood (some m)).advanceInRun.examineAsk := by
  unfold State.signal
  rw [if_neg h]
  rfl

theorem State.signal_config (h : s.link.state = .config) (good : Option Metrics) : s.signal good = s := by
  unfold State.signal
  rw [if_pos h]
  exact s.advanceInRun_outside (by simp [h])

/-- R88: outside RUN an entry with a good header makes steps 1 and 5 alone. -/
theorem State.signal_some_outside (h : s.link.state ≠ .config) (hrun : s.link.state ≠ .run) :
    s.signal (some m) = (s.updateFar (some m)).examineAsk := by
  have hfar : (s.updateFar (some m)).link.state ≠ .run := by simpa using hrun
  rw [State.signal_some h, State.followGood_outside _ _ hfar, State.examineGood_outside _ _ hfar,
    State.advanceInRun_outside _ hfar]

/-! In RUN steps 2, 3 and 4 are made. -/

theorem State.followGood_run (h : s.link.state = .run) : s.followGood (some m) = s.followHeader m.rxProfile := by
  unfold State.followGood
  rw [h]

theorem State.examineGood_run (h : s.link.state = .run) :
    s.examineGood (some m) = { s with hop := s.hop.examineAnswer s.settings } := by
  unfold State.examineGood
  rw [h]

theorem State.advanceInRun_run (h : s.link.state = .run) : s.advanceInRun = s.advanceLaneTimer := by
  unfold State.advanceInRun
  rw [h]

/-! ## r follows the header (R85, R86, R93) -/

theorem RequestLane.completes_iff {l : RequestLane} {new : Profile} : l.completes new = true ↔
    (l.state = .asking ∨ l.state = .switching) ∧ ∃ a, l.pending = some a ∧ a.profile = new := by
  unfold RequestLane.completes
  cases l.pending <;> simp

/-- R93: a change of r that completes the ask `a`. -/
theorem State.changeR_completes {new : Profile} {a : PendingAsk} (hc : s.hop.lane.completes new = true)
    (ha : s.hop.lane.pending = some a) : s.changeR new = (State.raise .rxSwitch { s with
      hop := { s.hop with r := new, lane := s.hop.lane.idle .steady }
      decision := s.decision.followR s.hop.r new s.settings.upHoldoff
      fade := s.fade.followR s.hop.r new
      monitor := { s.monitor with
        current := s.monitor.current.countSwitch s.hop.r new a.urgent } }).watchSwitch .rxChange := by
  unfold State.changeR
  rw [hc, ha]
  rfl

/-- R86: a change of r that completes no ask. -/
theorem State.changeR_unexpected {new : Profile} (hc : ¬ s.hop.lane.completes new = true) :
    s.changeR new = ((State.raise .rxSwitch { s with
      hop := { s.hop with r := new }
      decision := s.decision.followR s.hop.r new s.settings.upHoldoff
      fade := s.fade.followR s.hop.r new
      monitor := { s.monitor with
        current := s.monitor.current.countSwitch s.hop.r new false } }).raise .rxUnexpected).watchSwitch .rxChange := by
  unfold State.changeR
  rw [eq_false_of_ne_true hc]
  rfl

/-! ## The last answer (R91) -/

section
variable {h : HopSignalling} {set : Settings}

theorem HopSignalling.matched_iff : h.matched = true ↔ (h.lane.state = .asking ∨ h.lane.state = .switching) ∧
    h.far.ansKind ≠ .none ∧ h.far.ansSeq = h.lane.seq := by
  simp [HopSignalling.matched, and_assoc]

theorem HopSignalling.examineAnswer_ignores
    (hn : ¬ (h.lane.state = .asking ∨ h.lane.state = .switching) ∨ h.far.ansSeq ≠ h.lane.seq ∨ h.far.ansKind = .none ∨
      h.far.ansKind = .agree ∧ h.lane.state = .switching) : h.examineAnswer set = h := by
  unfold HopSignalling.examineAnswer
  by_cases hm : h.matched = true
  · obtain ⟨hwaits, hkind, hseq⟩ := HopSignalling.matched_iff.1 hm
    rcases hn with hn | hn | hn | ⟨hk, hl⟩
    · exact absurd hwaits hn
    · exact absurd hseq hn
    · exact absurd hn hkind
    · rw [hk, hl]
      exact ite_self h
  · exact if_neg hm

theorem HopSignalling.examineAnswer_agrees (hm : h.matched = true) (hk : h.far.ansKind = .agree)
    (hl : h.lane.state = .asking) : h.examineAnswer set = { h with lane := { h.lane with
      state := .switching, answerTimer := 0, timeouts := 0, fresh := true
      deadline := h.far.ansValue.toNat + set.switchGuard } } := by
  unfold HopSignalling.examineAnswer
  rw [if_pos hm, hk, hl]

theorem HopSignalling.examineAnswer_declines (hm : h.matched = true) (hk : h.far.ansKind = .decline) :
    h.examineAnswer set = { h with lane := h.lane.backOff (declineBackoff h.far.ansValue
      (h.lane.pending.elim false (·.urgent)) set.askBackoff) } := by
  unfold HopSignalling.examineAnswer
  rw [if_pos hm, hk]

theorem pendingUrgent_iff {o : Option PendingAsk} :
    o.elim false (·.urgent) = true ↔ ∃ a, o = some a ∧ a.urgent = true := by
  cases o <;> simp

end

/-! ## The timers and their expiries (R88, R92, R93, R96) -/

theorem State.expireAnswerTimer_eq : s.expireAnswerTimer =
    if s.hop.lane.timeouts < 2 then
      { s with hop := { s.hop with lane := { s.hop.lane with
          timeouts := s.hop.lane.timeouts + 1, seq := newSeq s.hop.lane.seq s.hop.far.ansSeq
          answerTimer := s.settings.askTimeout, fresh := true } } }
    else { s with hop := { s.hop with lane := s.hop.lane.backOff s.settings.askBackoff } }.raise .handshakeLost :=
  if_congr (by omega) rfl rfl

theorem State.advanceLaneTimer_rests (h : s.hop.lane.fresh = true ∨ s.hop.lane.state = .steady) :
    s.advanceLaneTimer = s := by
  unfold State.advanceLaneTimer
  dsimp only
  rcases h with h | h
  · exact if_pos h
  · rw [h]
    exact ite_self s

section
variable (hf : s.hop.lane.fresh = false)
include hf

theorem State.advanceLaneTimer_asking (hl : s.hop.lane.state = .asking) : s.advanceLaneTimer =
    if s.hop.lane.answerTimer ≤ 1 then s.expireAnswerTimer
    else { s with hop := { s.hop with lane := { s.hop.lane with answerTimer := s.hop.lane.answerTimer - 1 } } } := by
  unfold State.advanceLaneTimer
  dsimp only
  rw [hf, hl]
  rfl

theorem State.advanceLaneTimer_switching (hl : s.hop.lane.state = .switching) : s.advanceLaneTimer =
    if s.hop.lane.deadline ≤ 1 then s.missSwitch
    else { s with hop := { s.hop with lane := { s.hop.lane with deadline := s.hop.lane.deadline - 1 } } } := by
  unfold State.advanceLaneTimer
  dsimp only
  rw [hf, hl]
  rfl

theorem State.advanceLaneTimer_backoff (hl : s.hop.lane.state = .backoff) : s.advanceLaneTimer =
    if s.hop.lane.backoffTimer ≤ 1 then s.endBackoff
    else { s with hop := { s.hop with lane := { s.hop.lane with backoffTimer := s.hop.lane.backoffTimer - 1 } } } := by
  unfold State.advanceLaneTimer
  dsimp only
  rw [hf, hl]
  rfl

end

/-! ### The rows -/

/-- R147: a command that a running controller handles. -/
theorem State.unlessHeld_running (hs : s.Running) (f : State → State) : s.unlessHeld f = f s :=
  if_neg (ne_true_of_eq_false hs)

theorem exec_answerTimerExpiry (hs : s.Running) (hl : s.hop.lane.state = .asking) :
    exec .answerTimerExpiry s = .next s.expireAnswerTimer :=
  congrArg Host.Outcome.next ((State.unlessHeld_running hs _).trans (if_pos hl))

theorem exec_switchMissed (hs : s.Running) (hl : s.hop.lane.state = .switching) :
    exec .switchMissed s = .next s.missSwitch :=
  congrArg Host.Outcome.next ((State.unlessHeld_running hs _).trans (if_pos hl))

theorem exec_backoffExpiry (hs : s.Running) (hl : s.hop.lane.state = .backoff) :
    exec .backoffExpiry s = .next s.endBackoff :=
  congrArg Host.Outcome.next ((State.unlessHeld_running hs _).trans (if_pos hl))

end

/-! ## A target handed to the lane (R90, R94, R95, R96) -/

section
variable {l : RequestLane} {a x : PendingAsk} {r : Profile}

theorem replaces_iff : replaces a x r = true ↔ x.profile = a.profile ∧ x.urgent = true ∧ a.urgent = false ∨
    x.profile ≠ a.profile ∧ (x.urgent = true ∨ x.profile < r ∧ r < a.profile) := by
  unfold replaces
  split <;> simp [*]

theorem replacesSwitching_iff : replacesSwitching a x r = true ↔
    replaces a x r = true ∧ ¬ (x.urgent = true ∧ a.profile < r ∧ a.profile ≤ x.profile) := by
  unfold replacesSwitching
  rw [Bool.and_eq_true, Bool.not_eq_true', ← Bool.not_eq_true]
  simp only [Bool.and_eq_true, decide_eq_true_eq, and_assoc]

theorem RequestLane.takes_current (h : x.profile = r) : l.takes x r = false := by
  simp [RequestLane.takes, h]

theorem RequestLane.takes_steady (h : x.profile ≠ r) (hl : l.state = .steady) : l.takes x r = true := by
  simp [RequestLane.takes, h, hl]

theorem RequestLane.takes_backoff (h : x.profile ≠ r) (hl : l.state = .backoff) : l.takes x r = x.urgent := by
  simp [RequestLane.takes, h, hl]

theorem RequestLane.takes_asking (h : x.profile ≠ r) (hl : l.state = .asking) (ha : l.pending = some a) :
    l.takes x r = replaces a x r := by
  simp [RequestLane.takes, h, hl, ha]

theorem RequestLane.takes_switching (h : x.profile ≠ r) (hl : l.state = .switching) (ha : l.pending = some a) :
    l.takes x r = replacesSwitching a x r := by
  simp [RequestLane.takes, h, hl, ha]

end

/-- Settles O45: the five steps, the target and the rows, each by the equation of its case. -/
theorem requestLaneMoves : Obligations.RequestLaneMoves := by
  unfold Obligations.RequestLaneMoves
  intro s l next steady backOff withLane renewed lost missed
  have hexpire : s.expireAnswerTimer = if l.timeouts < 2 then renewed else lost := State.expireAnswerTimer_eq
  refine ⟨⟨rfl, fun _ => rfl⟩, fun hrun => ?_, fun hl => ?_, State.signal_config, fun m hrun => ?_,
    fun hrun => ?_, fun x => ?_, fun m hrun => ?_,
    fun hs => ⟨fun hl => ?_, exec_switchMissed hs, exec_backoffExpiry hs⟩⟩
  · have hc : s.link.state ≠ .config := by simp [hrun]
    exact ⟨State.signal_none hc, fun _ => State.signal_some hc⟩
  · have hc : s.link.state ≠ .config := by rintro h; simp [h] at hl
    have hn : s.link.state ≠ .run := by rintro h; simp [h] at hl
    exact ⟨(State.signal_none hc).trans (s.advanceInRun_outside hn), fun _ => State.signal_some_outside hc hn⟩
  · intro r new completes moved
    rw [State.followGood_run hrun]
    refine ⟨fun heq => if_pos heq, fun hne => ?_⟩
    rw [State.followHeader, if_neg hne]
    exact ⟨fun a hc ha => State.changeR_completes (RequestLane.completes_iff.2 hc) ha,
      fun hc => State.changeR_unexpected (mt RequestLane.completes_iff.1 hc)⟩
  · rw [State.advanceInRun_run hrun]
    refine ⟨State.advanceLaneTimer_rests, fun hf => ⟨fun hl => ?_, fun hl => ?_, fun hl => ?_⟩⟩
    · rw [State.advanceLaneTimer_asking hf hl]
      exact ⟨fun ht => if_neg (Nat.not_le.2 ht), fun ht => (if_pos ht).trans hexpire⟩
    · rw [State.advanceLaneTimer_switching hf hl]
      exact ⟨fun ht => if_neg (Nat.not_le.2 ht), fun ht => if_pos ht⟩
    · rw [State.advanceLaneTimer_backoff hf hl]
      exact ⟨fun ht => if_neg (Nat.not_le.2 ht), fun ht => if_pos ht⟩
  · intro taken displaces covered
    have htakes (h : l.takes x s.hop.r = true) : s.handTarget x = taken := if_pos h
    have hignores (h : ¬ l.takes x s.hop.r = true) : s.handTarget x = s := if_neg h
    refine ⟨fun hr => hignores (by simp [RequestLane.takes_current hr]), fun hr => ⟨fun hl => ?_, fun hl => ?_,
      fun a hl ha => ?_, fun a hl ha => ?_⟩⟩
    · exact htakes (RequestLane.takes_steady hr hl)
    · show (if l.takes x s.hop.r = true then taken else s) = _
      rw [RequestLane.takes_backoff hr hl]
    · have h := RequestLane.takes_asking hr hl ha
      exact ⟨fun hd => htakes (h.trans (replaces_iff.2 hd)), fun hd => hignores (h ▸ mt replaces_iff.1 hd)⟩
    · have h : l.takes x s.hop.r = true ↔ displaces a ∧ ¬ covered a := by
        rw [RequestLane.takes_switching hr hl ha, replacesSwitching_iff, replaces_iff]
      exact ⟨fun hd hc => htakes (h.2 ⟨hd, hc⟩), fun hn => hignores fun ht =>
        hn.elim (absurd (h.1 ht).1) fun hc => (h.1 ht).2 hc⟩
  · intro waits kind
    rw [State.examineGood_run hrun]
    have hset {x : HopSignalling} (h : s.hop.examineAnswer s.settings = x) :
        { s with hop := s.hop.examineAnswer s.settings } = { s with hop := x } := by rw [h]
    refine ⟨fun hn => hset (HopSignalling.examineAnswer_ignores hn), fun hl hq hk => ?_, fun hw hq hk => ?_⟩
    · have hm := HopSignalling.matched_iff.2 ⟨.inl hl, ne_of_eq_of_ne hk (by decide), hq⟩
      exact hset (HopSignalling.examineAnswer_agrees hm hk hl)
    · have hm := HopSignalling.matched_iff.2 ⟨hw, ne_of_eq_of_ne hk (by decide), hq⟩
      rw [HopSignalling.examineAnswer_declines hm hk]
      refine ⟨fun h5 => ?_, fun h5 hu => ?_, fun h5 hu => ?_⟩
      · rw [declineBackoff, if_pos h5]
        rfl
      · rw [declineBackoff, if_neg h5, if_pos (pendingUrgent_iff.2 hu)]
        rfl
      · rw [declineBackoff, if_neg h5, if_neg (mt pendingUrgent_iff.1 hu)]
        rfl
  · rw [exec_answerTimerExpiry hs hl, hexpire]

end Sys2Proof.Machine
end

section
/-! The pilots that PILOT_NOW and the pilot timer's expiry add to those owed (R117, R118, R120, R173). -/

namespace Sys2Proof.Machine

section
variable {s : State}

/-! ## One pilot added (R118) -/

/-- Below the limit, a pilot is counted and no flag is raised. -/
theorem State.addPilot_counts (h : s.tx.owed < 7) :
    s.addPilot = { s with tx := { s.tx with owed := s.tx.owed + 1 } } := by
  have hlimit : ¬ Config.pilotDebtLimit ≤ s.tx.owed + 1 := by unfold Config.pilotDebtLimit; omega
  have hcount : saturate Config.pilotDebtLimit (s.tx.owed + 1) = s.tx.owed + 1 := Nat.min_eq_right (by omega)
  simp [State.addPilot, State.raiseIf, hcount, hlimit]

/-- At the limit, the count stops at 8 and PILOT_OVERDUE is raised. -/
theorem State.addPilot_stops (h : 7 ≤ s.tx.owed) :
    s.addPilot = State.raise .pilotOverdue { s with tx := { s.tx with owed := 8 } } := by
  have hlimit : Config.pilotDebtLimit ≤ s.tx.owed + 1 := Nat.succ_le_succ h
  have hcount : saturate Config.pilotDebtLimit (s.tx.owed + 1) = 8 := Nat.min_eq_left hlimit
  simp [State.addPilot, State.raiseIf, State.raise, hcount, hlimit]

/-! ## The request and the expiry -/

theorem servePilotNow_run (h : s.link.state = .run) : servePilotNow s = done s.addPilot := if_pos h

theorem servePilotNow_outside (h : s.link.state ≠ .run) : servePilotNow s = refusal .wrongState s := if_neg h

theorem exec_pilotTimerExpiry (hs : s.Running) (hrun : s.link.state = .run) (ht : s.tx.pilotTimer.isSome) :
    exec .pilotTimerExpiry s = .next s.expirePilotTimer :=
  congrArg Host.Outcome.next ((State.unlessHeld_running hs _).trans (if_pos ⟨hrun, ht⟩))

end

/-- Settles O26: the link state that PILOT_NOW asks for, and the debt below its limit and at it. -/
theorem pilotsAreAdded : Obligations.PilotsAreAdded := by
  unfold Obligations.PilotsAreAdded
  refine fun s => ⟨fun m hready hkind hpayload => ?_, fun hs hrun ht => ?_⟩
  · have hexec : exec .pilotNow s = .next ((servePilotNow s.dropRequest).state.queueReply
        (replyTo m (servePilotNow s.dropRequest).status (servePilotNow s.dropRequest).payload)) := by
      have htake := hready.take_eq fun _ => servePilotNow
      rw [hkind, hpayload] at htake
      exact congrArg Host.Outcome.next htake
    rw [hexec]
    refine ⟨fun hout => ?_, fun hrun hlow => ?_, fun hrun hhigh => ?_⟩
    · rw [servePilotNow_outside (s := s.dropRequest) hout]
      rfl
    · rw [servePilotNow_run (s := s.dropRequest) hrun, State.addPilot_counts (s := s.dropRequest) hlow]
      rfl
    · rw [servePilotNow_run (s := s.dropRequest) hrun, State.addPilot_stops (s := s.dropRequest) hhigh]
      rfl
  · intro timer
    rw [exec_pilotTimerExpiry hs hrun ht]
    exact ⟨fun hlow => congrArg _ (State.addPilot_counts hlow), fun hhigh => congrArg _ (State.addPilot_stops hhigh)⟩

end Sys2Proof.Machine
end

section
/-! The power requests at an entry: the one that the receive side sets, and what the transmit side makes of the far
end's (R123 to R127, R133). -/

namespace Sys2Proof.Machine

/-! ## The outgoing request (R125) -/

section
variable {starved fade : Bool} {rsl low high : Int}

theorem outgoingRequest_fastUp (h : starved = true ∨ rsl < low - 20) :
    outgoingRequest starved fade rsl low high = .fastUp := by
  unfold outgoingRequest
  by_cases hs : starved = true
  · exact if_pos hs
  · rw [if_neg hs, if_pos (h.resolve_left hs)]

theorem outgoingRequest_up (hnear : low - 20 ≤ rsl) (hlow : rsl < low) :
    outgoingRequest false fade rsl low high = .up := by
  simp [outgoingRequest, Int.not_lt.2 hnear, hlow]

/-- At rsl_low and above, the RSL alone asks for no more power. -/
theorem outgoingRequest_enough (hlow : low ≤ rsl) :
    outgoingRequest false fade rsl low high = if high < rsl ∧ fade = false then .down else .none := by
  have hnear : ¬ rsl < low - 20 := by omega
  simp [outgoingRequest, hnear, Int.not_lt.2 hlow]

end

theorem State.powerReceive_run {s : State} (v : EntryValues) (hrun : s.link.state = .run) {x : PowerRequest}
    (hx : outgoingRequest s.est.starved s.fade.inFade v.history.rsl s.settings.rslLow s.settings.rslHigh = x) :
    s.powerReceive v = { s with power := { s.power with request := x } } := by
  rw [State.powerReceive, if_pos hrun, hx]

theorem State.powerReceive_outside {s : State} (v : EntryValues) (h : s.link.state ≠ .run) : s.powerReceive v = s :=
  if_neg h

/-! ## The clamp, where the bounds may have crossed (R123) -/

section
variable {lo hi : Nat} {v : Int}

theorem clampNat_below (h : v < lo) : clampNat lo hi v = lo := by
  simp [clampNat, clampInt, h]

theorem clampNat_within (hlo : lo ≤ v) (hhi : v ≤ hi) : (clampNat lo hi v : Int) = v := by
  rw [clampNat, clampInt, if_neg (Int.not_lt.2 hlo), if_neg (Int.not_lt.2 hhi)]
  exact Int.toNat_of_nonneg ((Int.natCast_nonneg lo).trans hlo)

theorem clampNat_above (hlo : lo ≤ v) (hhi : hi < v) : clampNat lo hi v = hi := by
  simp [clampNat, clampInt, Int.not_lt.2 hlo, hhi]

end

/-! ## The far end's request (R126, R127) -/

/-- R126: what a far request adds to A. -/
def PowerRequest.change : PowerRequest → Int
  | .up => -1
  | .fastUp => -3
  | .down => 1
  | .none => 0

theorem requested_eq_add (a : Nat) (r : PowerRequest) : requested a r = a + r.change := by
  cases r <;> simp [requested, PowerRequest.change, Int.sub_eq_add_neg]

theorem PowerRequest.change_range (r : PowerRequest) : -3 ≤ r.change ∧ r.change ≤ 1 := by
  cases r <;> decide

/-- R127: the counter has fallen by this entry when it is tested. -/
theorem rateAllows_iff {count : Nat} {r : PowerRequest} {farFade : Bool} :
    rateAllows (count - 1) r farFade = true ↔ count ≤ 1 ∨ farFade = true ∧ (r = .up ∨ r = .fastUp) := by
  simp [rateAllows, Nat.sub_eq_zero_iff_le, and_comm]

/-- R126, R127: the mode, the limit state and the rate limit let the request of a header act. -/
def State.FarRequestActs (s : State) (m : Metrics) : Prop :=
  s.entryMode = .auto ∧ s.power.limit = .released ∧
    (s.power.rateCount ≤ 1 ∨ m.hcw.fade = true ∧ (m.hcw.powerReq = .up ∨ m.hcw.powerReq = .fastUp))

/-- R126: A as the request of a header makes it. -/
def State.movedAtten (s : State) (m : Metrics) : Nat := s.clampAtten (s.power.a + m.hcw.powerReq.change)

section
variable {s : State} {m : Metrics}

theorem State.farRequestActs_iff : s.FarRequestActs m ↔ s.entryMode = .auto ∧ s.power.limit = .released ∧
    rateAllows (s.power.rateCount - 1) m.hcw.powerReq m.hcw.fade = true := by
  rw [rateAllows_iff, State.FarRequestActs]

theorem State.powerTransmit_outside (good : Option Metrics) (h : s.link.state ≠ .run) : s.powerTransmit good = s :=
  if_neg h

theorem State.powerTransmit_none (hrun : s.link.state = .run) :
    s.powerTransmit none = { s with power := { s.power with rateCount := s.power.rateCount - 1 } } :=
  if_pos hrun

theorem State.powerTransmit_waits (hrun : s.link.state = .run) (h : ¬ s.FarRequestActs m) :
    s.powerTransmit (some m) = { s with power := { s.power with rateCount := s.power.rateCount - 1 } } :=
  (if_pos hrun).trans (if_neg (mt State.farRequestActs_iff.2 h))

theorem State.powerTransmit_acts (hrun : s.link.state = .run) (h : s.FarRequestActs m) :
    s.powerTransmit (some m) = { s with power := { s.power with
      a := s.movedAtten m
      rateCount := if s.movedAtten m = s.power.a then s.power.rateCount - 1 else s.settings.powerInterval } } := by
  rw [State.movedAtten, ← requested_eq_add]
  exact (if_pos hrun).trans (if_pos (State.farRequestActs_iff.1 h))

/-- From within the bounds, a request keeps A within them and moves it by no more than it asks for. -/
theorem State.movedAtten_near (hfloor : s.floor ≤ s.power.a) (hceiling : s.power.a ≤ s.ceiling) :
    s.floor ≤ s.movedAtten m ∧ s.movedAtten m ≤ s.ceiling ∧
      s.movedAtten m ≤ s.power.a + 1 ∧ s.power.a ≤ s.movedAtten m + 3 := by
  have hclamp : (s.movedAtten m : Int) = _ := clampNat_eq s.floor s.ceiling _ (hfloor.trans hceiling)
  have hchange := m.hcw.powerReq.change_range
  omega

/-- R126, R127: at an entry in RUN, A stays or a far request moves it. -/
theorem State.powerTransmit_a (good : Option Metrics) (hrun : s.link.state = .run) :
    (s.powerTransmit good).power.a = s.power.a ∨ ∃ m, (s.powerTransmit good).power.a = s.movedAtten m := by
  cases good with
  | none => exact .inl (by rw [State.powerTransmit_none hrun])
  | some m =>
    by_cases h : s.FarRequestActs m
    · exact .inr ⟨m, by rw [State.powerTransmit_acts hrun h]⟩
    · exact .inl (by rw [State.powerTransmit_waits hrun h])

end

/-- R129, R134: the free value chooses between the two modes. -/
theorem State.entryMode_cases (s : State) :
    s.entryMode = s.settings.atpcMode ∨ s.entryMode = s.power.slotMode := by
  unfold State.entryMode
  split
  · exact .inr rfl
  · exact .inl rfl

/-- Settles O51: the outgoing request by its table, and the far end's by whether it acts. -/
theorem powerRequestsAtEntry : Obligations.PowerRequestsAtEntry := by
  unfold Obligations.PowerRequestsAtEntry
  refine ⟨?_, fun s good hrun => ⟨s.entryMode, s.entryMode_cases, ?_⟩,
    fun s h => ⟨fun v => State.powerReceive_outside v h, fun good => State.powerTransmit_outside good h⟩⟩
  · intro s v hrun request
    have hrequest {x : PowerRequest} := State.powerReceive_run (x := x) v hrun
    refine ⟨fun h => hrequest (outgoingRequest_fastUp h), fun hs => ?_⟩
    rw [hs] at hrequest
    refine ⟨fun hnear hlow => hrequest (outgoingRequest_up hnear hlow), fun hlow => ⟨fun hhigh hf => ?_, fun h => ?_⟩⟩
    · have hclear : s.fade.inFade = false := congrArg Option.isSome hf
      exact hrequest ((outgoingRequest_enough hlow).trans (if_pos ⟨hhigh, hclear⟩))
    · refine hrequest ((outgoingRequest_enough hlow).trans (if_neg fun ⟨hhigh, hclear⟩ => ?_))
      exact h.elim (Int.not_le.2 hhigh) (Bool.eq_false_iff.1 hclear)
  · intro t floor ceiling set acts moves
    refine ⟨?_, ?_, fun hfloor hceiling => ?_⟩
    · rintro rfl
      exact State.powerTransmit_none hrun
    · rintro m rfl
      refine ⟨State.powerTransmit_waits hrun, fun h => ?_⟩
      have hacts := State.powerTransmit_acts hrun h
      have ha : t.power.a = s.movedAtten m := congrArg (·.power.a) hacts
      rw [ha]
      exact ⟨⟨s.movedAtten m, hacts, clampNat_below, clampNat_within, clampNat_above⟩, clampNat_range _ _ _⟩
    · rcases s.powerTransmit_a good hrun with ha | ⟨m, ha⟩
      · have ht : t.power.a = s.power.a := ha
        rw [ht]
        exact ⟨hfloor, hceiling, by omega, by omega⟩
      · have ht : t.power.a = s.movedAtten m := ha
        rw [ht]
        exact State.movedAtten_near hfloor hceiling

end Sys2Proof.Machine
end

section
/-! The transitions of the link state: the table of R136, what each operation makes of the link state, and every
step. -/

namespace Sys2Proof.Machine

/-! ## The table of transitions (R136) -/

/-- R136: the link state stays or passes on. CONFIG and SYNC are entered from every state, CAPS from SYNC alone and RUN
from CAPS alone. -/
inductive LinkPhase.Passes : LinkPhase → LinkPhase → Prop where
  | stays (a : LinkPhase) : Passes a a
  | toConfig (a : LinkPhase) : Passes a .config
  | toSync (a : LinkPhase) : Passes a .sync
  | toCaps : Passes .sync .caps
  | toRun : Passes .caps .run

/-- R136: the table, row by row. -/
theorem LinkPhase.Passes.transition {a b : LinkPhase} (h : a.Passes b) : b = a ∨ b = .config ∨
    (a = .config ∧ b = .sync) ∨ (a = .sync ∧ b = .caps) ∨ (a = .caps ∧ (b = .sync ∨ b = .run)) ∨
    (a = .run ∧ b = .sync) := by
  cases h with
  | stays => exact .inl rfl
  | toConfig => exact .inr (.inl rfl)
  | toSync => cases a <;> simp
  | toCaps | toRun => simp

/-- R136: the link state stays or passes on from one state of the controller to the other. -/
def State.LinkPasses (s t : State) : Prop := s.link.state.Passes t.link.state

theorem State.LinkPasses.same {s t : State} (h : t.link = s.link) : s.LinkPasses t := by
  rw [State.LinkPasses, h]
  exact .stays _

/-- What is done before the passage leaves the link alone. -/
theorem State.LinkPasses.since {s s' t : State} (h : s'.LinkPasses t) (hl : s'.link = s.link) : s.LinkPasses t := by
  rwa [State.LinkPasses, ← hl]

/-! ## An entry (R139, R141, R144, R145) -/

theorem State.linkLoss_state (s : State) : s.linkLoss.link.state = .sync := by
  rw [s.linkLoss_losesLink.link]

theorem State.linkEntry_passes (s : State) (good : Option Metrics) : s.LinkPasses (s.linkEntry good) := by
  unfold State.LinkPasses State.linkEntry
  split
  · next h => split <;> [(rw [h]; exact .toCaps); exact .stays _]
  · next h => split <;> [(rw [h]; exact .toRun); (rw [h]; exact .toRun); exact .stays _; exact .stays _]
  · unfold State.watchLink
    dsimp only
    split <;> [(rw [State.linkLoss_state]; exact .toSync _); exact .stays _]
  all_goals exact .stays _

/-- R16: the link state passes on at most once in an entry. -/
theorem State.handleEntry_passes (s : State) (e : Entry) : s.LinkPasses (s.handleEntry e) := by
  obtain ⟨host, lane, n, good, v, order, -, ho, hp⟩ := (s.handleEntry_handles e).passes
  obtain ⟨y, z, hy, hact, ht⟩ := hp.once link_writtenBy order _ _ (entryOrder_nodup ho)
    (ho.mem_iff.2 (defaultEntryOrder_mem _))
  have hlink : y.link = s.link := hy
  obtain rfl : z = y.linkEntry good := hact
  rw [State.LinkPasses, ht, ← hlink]
  exact y.linkEntry_passes good

theorem State.deliver_passes (s : State) (m : Metrics) (resumed valid : Bool) :
    s.LinkPasses (s.deliver m resumed valid) :=
  (State.handleEntry_passes _ _).since rfl

/-! ## The entries of one record (R154)

A held frame can lose the link before the record itself is delivered. The link stays in SYNC then, because the loss has
cleared both marks and the record sets only the mark of its own half, where R139 asks for the other. -/

theorem State.swapAtEntry_marks (s : State) :
    s.swapAtEntry.table.mark0 = s.table.mark0 ∧ s.swapAtEntry.table.mark1 = s.table.mark1 := by
  unfold State.swapAtEntry
  (repeat' split) <;> exact ⟨rfl, rfl⟩

/-- R11, R12: within an entry the marks are the Profile Table's and the Link State Controller's to write. -/
theorem EntryActs.marks {e : Entry} {good : Option Metrics} {v : EntryValues} {x y : State} {b : EntryBlock}
    (h : EntryActs e good v x y b) (hfar : b ≠ .farMask) (hlink : b ≠ .linkState) :
    y.table.mark0 = x.table.mark0 ∧ y.table.mark1 = x.table.mark1 := by
  cases b
  case estimator => obtain rfl : (x.estimate e).1 = y := congrArg Prod.fst h; simp
  case swap => cases h; exact x.swapAtEntry_marks
  case farMask => exact absurd rfl hfar
  case linkState => exact absurd rfl hlink
  all_goals cases h; simp

/-- R11: the caps byte of a header leaves the mark of the other half alone. -/
theorem ProfileTable.takeCaps_otherMark (t : ProfileTable) (half : Bool) (byte : BitVec 8) :
    (t.takeCaps half byte).otherMark half = t.otherMark half := by cases half <;> rfl

/-- The link is in SYNC with both marks clear. -/
structure State.SyncUnmarked (s : State) : Prop where
  state : s.link.state = .sync
  mark0 : s.table.mark0 = false
  mark1 : s.table.mark1 = false

/-- R12, R146: link loss leaves the link in SYNC with both marks clear. -/
theorem State.linkLoss_syncUnmarked (s : State) : s.linkLoss.SyncUnmarked := by
  have htable := s.linkLoss_losesLink.table
  exact ⟨s.linkLoss_state, by rw [htable]; rfl, by rw [htable]; rfl⟩

/-- R139: the link is in SYNC, and the mark that a good header would have to find is clear. -/
structure State.SyncWaits (good : Option Metrics) (s : State) : Prop where
  state : s.link.state = .sync
  mark  : ∀ m, good = some m → s.table.otherMark m.hcw.capsHalf = false

theorem State.SyncUnmarked.waits {s : State} (h : s.SyncUnmarked) (good : Option Metrics) : s.SyncWaits good :=
  ⟨h.state, fun m _ => by cases hc : m.hcw.capsHalf <;> simp [ProfileTable.otherMark, h.mark0, h.mark1]⟩

theorem State.SyncWaits.linkEntry {s : State} {good : Option Metrics} (h : s.SyncWaits good) :
    s.linkEntry good = s := by
  cases good with
  | none => simp [State.linkEntry, h.state]
  | some m => simp [State.linkEntry, h.state, h.mark m rfl]

/-- R139: no block of the entry takes the link out of SYNC while the other half's mark is clear. -/
theorem State.SyncWaits.acts {e : Entry} {good : Option Metrics} {v : EntryValues} {x y : State} {b : EntryBlock}
    (h : x.SyncWaits good) (hact : EntryActs e good v x y b) : y.SyncWaits good := by
  by_cases hlink : b = .linkState
  · subst hlink
    obtain rfl : y = x.linkEntry good := hact
    rwa [h.linkEntry]
  · have hstate : y.link = x.link := link_writtenBy.acts e good v b x y hlink hact
    refine ⟨hstate ▸ h.state, fun m hm => ?_⟩
    by_cases hfar : b = .farMask
    · subst hfar hm
      obtain rfl : y = x.takeFarMask (some m) := hact
      exact (ProfileTable.takeCaps_otherMark _ _ _).trans (h.mark m rfl)
    · obtain ⟨hmark0, hmark1⟩ := hact.marks hfar hlink
      have hmark := h.mark m hm
      rwa [ProfileTable.otherMark, hmark0, hmark1]

theorem State.SyncUnmarked.handleEntry {s : State} (hs : s.SyncUnmarked) (e : Entry) :
    (s.handleEntry e).link.state = .sync := by
  obtain ⟨host, lane, n, good, v, order, -, -, hp⟩ := (s.handleEntry_handles e).passes
  have hend := EntryPasses.stages (J := fun _ => State.SyncWaits good) (fun _ _ _ _ hx hact => hx.acts hact)
    (fun _ x hx => ⟨by simpa using hx.state, by simpa using hx.mark⟩) order _ _ hp ⟨hs.state, (hs.waits good).mark⟩
  exact hend.state

theorem State.SyncUnmarked.deliver {s : State} (hs : s.SyncUnmarked) (m : Metrics) (resumed valid : Bool) :
    (s.deliver m resumed valid).link.state = .sync :=
  State.SyncUnmarked.handleEntry (s := s.raiseIf _ _) ⟨hs.state, hs.mark0, hs.mark1⟩ _

/-- R144, R145: since the link state was `a`, held frames have at most lost the link. -/
def State.HeldSince (a : LinkPhase) (s : State) : Prop := s.link.state = a ∨ a = .run ∧ s.SyncUnmarked

theorem State.linkEntry_heldSince {a : LinkPhase} {s : State} (h : s.HeldSince a) : (s.linkEntry none).HeldSince a := by
  rcases h with rfl | ⟨ha, hs⟩
  · unfold State.linkEntry
    split
    case h_3 hrun =>
      unfold State.watchLink
      dsimp only
      split <;> [exact .inr ⟨hrun, State.linkLoss_syncUnmarked _⟩; exact .inl rfl]
    case h_1 hgood | h_2 hgood => cases hgood
    all_goals exact .inl rfl
  · rw [(hs.waits none).linkEntry]
    exact .inr ⟨ha, hs⟩

theorem State.HeldSince.same {a : LinkPhase} {x y : State} (h : x.HeldSince a) (hlink : y.link = x.link)
    (hmarks : y.table.mark0 = x.table.mark0 ∧ y.table.mark1 = x.table.mark1) : y.HeldSince a := by
  obtain ⟨hmark0, hmark1⟩ := hmarks
  exact h.imp (hlink ▸ ·) fun ⟨ha, hs⟩ => ⟨ha, hlink ▸ hs.state, hmark0 ▸ hs.mark0, hmark1 ▸ hs.mark1⟩

theorem State.HeldSince.acts {a : LinkPhase} {e : Entry} {v : EntryValues} {x y : State} {b : EntryBlock}
    (h : x.HeldSince a) (hact : EntryActs e none v x y b) : y.HeldSince a := by
  by_cases hlink : b = .linkState
  · subst hlink
    obtain rfl : y = x.linkEntry none := hact
    exact State.linkEntry_heldSince h
  · refine h.same (link_writtenBy.acts e none v b x y hlink hact) ?_
    by_cases hfar : b = .farMask
    · subst hfar
      obtain rfl : y = x := hact
      exact ⟨rfl, rfl⟩
    · exact hact.marks hfar hlink

theorem State.HeldSince.handleEntry {a : LinkPhase} {s : State} (hs : s.HeldSince a) (n : FrameNo) :
    (s.handleEntry (heldFrame n)).HeldSince a := by
  obtain ⟨host, lane, n, good, v, order, hshow, -, hp⟩ := (s.handleEntry_handles (heldFrame n)).passes
  obtain rfl : good = none := hshow.eq_none rfl
  exact EntryPasses.stages (J := fun _ => State.HeldSince a) (fun _ _ _ _ hx hact => hx.acts hact)
    (fun _ x hx => hx.same (by simp) (by simp)) order _ _ hp (hs.same rfl ⟨rfl, rfl⟩)

theorem State.HeldSince.deliverHeld {a : LinkPhase} (k : Nat) : ∀ (s : State) (first : FrameNo),
    s.HeldSince a → (s.deliverHeld first k).HeldSince a := by
  induction k with
  | zero => exact fun _ _ hs => hs
  | succ k ih => exact fun _ first hs => ih _ _ (hs.handleEntry first)

/-- R154: the held frames of a gap and then the record make one passage at most. -/
theorem State.deliverGap_passes (s : State) (first : FrameNo) (gap : Nat) (m : Metrics) (resumed valid : Bool) :
    s.LinkPasses ((s.deliverHeld first gap).deliver m resumed valid) := by
  have hheld : (s.deliverHeld first gap).HeldSince s.link.state := .deliverHeld gap s first (.inl rfl)
  rcases hheld with hsame | ⟨-, hlost⟩
  · rw [State.LinkPasses, ← hsame]
    exact State.deliver_passes _ m resumed valid
  · rw [State.LinkPasses, hlost.deliver]
    exact .toSync _

/-! ## What makes no entry: the link stays, stops or falls back to SYNC -/

/-- The link state stays, or it becomes CONFIG or SYNC. -/
def State.Retreats (s t : State) : Prop := t.link.state = s.link.state ∨ t.link.state = .config ∨ t.link.state = .sync

namespace State.Retreats

theorem same {s t : State} (h : t.link = s.link) : s.Retreats t := .inl (congrArg LinkControl.state h)

theorem refl (s : State) : s.Retreats s := .inl rfl

theorem toConfig {s t : State} (h : t.link.state = .config) : s.Retreats t := .inr (.inl h)

theorem toSync {s t : State} (h : t.link.state = .sync) : s.Retreats t := .inr (.inr h)

theorem trans {s t u : State} (hst : s.Retreats t) (htu : t.Retreats u) : s.Retreats u :=
  htu.elim (fun h => hst.imp h.trans (Or.imp h.trans h.trans)) .inr

theorem passes {s t : State} (h : s.Retreats t) : s.LinkPasses t := by
  rcases h with h | h | h <;> rw [State.LinkPasses, h] <;> [exact .stays _; exact .toConfig _; exact .toSync _]

theorem unlessHeld {s : State} {f : State → State} (h : s.Retreats (f s)) : s.Retreats (s.unlessHeld f) := by
  unfold State.unlessHeld
  split <;> [exact refl s; exact h]

theorem answer {s : State} (m : Message) {f : State → Served}
    (h : s.dropRequest.Retreats (f s.dropRequest).state) : s.Retreats (s.answer m f) :=
  trans (t := s.dropRequest) (same rfl) (trans h (same rfl))

theorem take {s : State} {kind : Byte} {len : Nat} {f : List Byte → State → Served}
    (h : ∀ p t, State.Retreats t (f p t).state) : s.Retreats (s.take kind len f) := by
  unfold State.take
  split
  · exact refl s
  · split
    · refine answer _ ?_
      split <;> [exact h _ _; exact refl _]
    · exact refl s

/-- A request whose service leaves the link alone. -/
theorem takeApart {s : State} {kind : Byte} {len : Nat} {f : List Byte → State → Served}
    (h : ∀ p t, (f p t).state.link = t.link) : s.Retreats (s.unlessHeld (·.take kind len f)) :=
  unlessHeld (take fun p t => same (h p t))

end State.Retreats

/-! ### The intake and the timers (R140, R142, R143, R157, R158) -/

theorem State.searchReached_retreats (s : State) : s.Retreats s.searchReached := by
  unfold State.searchReached
  split <;> [exact .toSync s.linkLoss_state; exact .toSync rfl; exact .refl s; exact .refl s]

theorem State.enterSearch_retreats (s : State) : s.Retreats s.enterSearch := by
  rw [s.enterSearch_eq]
  exact State.searchReached_retreats _

theorem State.expireSilence_retreats (s : State) : s.Retreats s.expireSilence := by
  unfold State.expireSilence
  split <;> [exact .refl s; exact .same rfl; exact .same (by simp [State.loadSilence]);
    exact State.enterSearch_retreats { s with intake := { s.intake with silence := none } }]

theorem State.tick_retreats (s : State) : s.Retreats s.tick := by
  refine .unlessHeld ?_
  have hacq : s.Retreats s.tickAcq := by
    unfold State.tickAcq
    split <;> [exact .refl s; (split <;> [exact .toSync rfl; exact .inl rfl])]
  have hsilence (s : State) : s.Retreats s.tickSilence := by
    unfold State.tickSilence
    split <;> [exact .refl s; (split <;> [exact s.expireSilence_retreats; exact .same rfl])]
  have hreceiver (s : State) : s.Retreats s.tickReceiver := by
    unfold State.tickReceiver
    (repeat' split) <;> exact .same rfl
  have hsecond (s : State) : s.Retreats s.tickSecond := by
    unfold State.tickSecond
    split <;> exact .same rfl
  exact ((hacq.trans (hsilence _)).trans (hreceiver _)).trans (hsecond _)

/-! ### The host line and the slots (R107, R161, R172) -/

theorem State.receiveAll_link (bs : List Byte) : ∀ s : State, (s.receiveAll bs).link = s.link := by
  induction bs with
  | nil => exact fun _ => rfl
  | cons b bs ih =>
    refine fun s => (ih (s.receive b)).trans ?_
    unfold State.receive State.complete
    dsimp only
    (repeat' split) <;> rfl

theorem State.takeSlot_link (s : State) (bs : List Byte) (l : Bool) : (s.takeSlot bs l).link = s.link := by
  unfold State.takeSlot
  split <;> simp

theorem State.finishDescriptor_link (s : State) (l : Bool) : (s.finishDescriptor l).link = s.link := by
  unfold State.finishDescriptor
  (repeat' split) <;> simp

/-! ### The requests: LINK_START and LINK_STOP apart, none touches the link -/

section
variable (p : List Byte) (s : State)

theorem serveSetSetting_link : (serveSetSetting p s).state.link = s.link := by simp [serveSetSetting]

theorem serveGetSetting_link : (serveGetSetting p s).state.link = s.link := by
  unfold serveGetSetting; split <;> rfl

theorem serveWriteProfile_link : (serveWriteProfile p s).state.link = s.link := by
  unfold serveWriteProfile; (repeat' split) <;> rfl

theorem serveReadProfile_link : (serveReadProfile p s).state.link = s.link := by
  unfold serveReadProfile; split <;> rfl

theorem serveSwapTable_link : (serveSwapTable s).state.link = s.link := by
  unfold serveSwapTable; (repeat' split) <;> rfl

theorem serveForce_link : (serveForce p s).state.link = s.link := by
  unfold serveForce; (repeat' split) <;> rfl

theorem servePilotNow_link : (servePilotNow s).state.link = s.link := by
  unfold servePilotNow; split <;> rfl

theorem serveReadStatus_link : (serveReadStatus p s).state.link = s.link := by
  unfold serveReadStatus; dsimp only; split <;> rfl

theorem serveReadHistory_link : (serveReadHistory p s).state.link = s.link := by
  unfold serveReadHistory; dsimp only; split <;> rfl

theorem serveReadFades_link : (serveReadFades p s).state.link = s.link := by
  unfold serveReadFades; dsimp only; split <;> rfl

theorem serveReadBin_link : (serveReadBin p s).state.link = s.link := by
  unfold serveReadBin; dsimp only; split <;> rfl

theorem serveWatch_link : (serveWatch p s).state.link = s.link := by
  unfold serveWatch; dsimp only; (repeat' split) <;> rfl

theorem serveLinkStart_retreats : s.Retreats (serveLinkStart s).state := by
  unfold serveLinkStart
  split <;> [exact .toSync rfl; exact .refl s]

theorem State.stopLink_state : s.stopLink.link.state = .config := by
  unfold State.stopLink
  split <;> simp [State.stopCommon]

theorem serveLinkStop_retreats : s.Retreats (serveLinkStop s).state := by
  unfold serveLinkStop
  split <;> [exact .refl s; exact .toConfig s.stopLink_state]

end

/-! ## Every command and every step -/

/-- R136: of every command but RX_METRICS the link stays, stops or falls back to SYNC. -/
theorem exec_retreats (c : Instr) (s t : State) (hc : ∀ rest, c ≠ .rxMetrics rest) (he : exec c s = .next t) :
    s.Retreats t := by
  cases c <;> cases he
  case powerOn => split <;> exact .toConfig rfl
  case resetLineAssert => exact .unlessHeld (.same rfl)
  case resetLineRelease => split <;> [exact .toConfig rfl; exact .refl s]
  case hostMessage bs => exact .unlessHeld (.same (State.receiveAll_link bs s))
  case interByteTimeout => exact .unlessHeld (.same rfl)
  case messageSent =>
    refine .unlessHeld ?_
    split <;> [exact .toConfig rfl; exact .same rfl]
  case unknownKind =>
    refine .unlessHeld ?_
    (repeat' split) <;> [exact .refl s; exact .answer _ (.refl _); exact .refl s]
  case getInfo | eventEnable | clearEvents | readEvents | restart => exact .takeApart fun _ _ => rfl
  case setSetting => exact .takeApart serveSetSetting_link
  case getSetting => exact .takeApart serveGetSetting_link
  case writeProfile => exact .takeApart serveWriteProfile_link
  case readProfile => exact .takeApart serveReadProfile_link
  case swapTable => exact .takeApart fun _ => serveSwapTable_link
  case linkStart => exact .unlessHeld (.take fun _ => serveLinkStart_retreats)
  case linkStop => exact .unlessHeld (.take fun _ => serveLinkStop_retreats)
  case force => exact .takeApart serveForce_link
  case pilotNow => exact .takeApart fun _ => servePilotNow_link
  case readStatus => exact .takeApart serveReadStatus_link
  case readHistory => exact .takeApart serveReadHistory_link
  case readFades => exact .takeApart serveReadFades_link
  case readBin => exact .takeApart serveReadBin_link
  case watch => exact .takeApart serveWatch_link
  case restartTakesEffect =>
    refine .unlessHeld ?_
    split <;> [exact .toConfig rfl; exact .refl s]
  case rxMetrics rest => exact absurd rfl (hc rest)
  case unknownRecord => exact .refl s
  case answerTimerExpiry =>
    refine .unlessHeld ?_
    split <;> [exact .same (by simp); exact .refl s]
  case watchReport | swapTimeout | switchMissed | backoffExpiry | pilotTimerExpiry =>
    refine .unlessHeld ?_
    split <;> exact .same rfl
  case silenceTimerExpiry =>
    refine .unlessHeld ?_
    split <;> [exact s.expireSilence_retreats; exact .refl s]
  case acqTimeout =>
    refine .unlessHeld ?_
    split <;> [exact .toSync rfl; exact .refl s]
  case txSlot => exact .unlessHeld (.same (s.takeSlot_link _ _))
  case descriptorSent => exact .unlessHeld (.same (s.finishDescriptor_link _))
  case secondEnd => exact .unlessHeld (.same rfl)

theorem State.lock_passes (s : State) (m : Metrics) : s.LinkPasses (s.lock m) :=
  (State.deliver_passes _ m true _).since rfl

theorem State.searchRecord_passes (s : State) (good : Bool) (m : Metrics) :
    s.LinkPasses (s.searchRecord good m) := by
  unfold State.searchRecord
  (repeat' split) <;> [exact s.lock_passes m; exact .same rfl; exact .same rfl]

theorem State.lockedGood_passes (s : State) (m : Metrics) : s.LinkPasses (s.lockedGood m) := by
  unfold State.lockedGood
  dsimp only
  split
  · exact (State.deliverGap_passes _ _ _ m false _).since rfl
  · split <;> [exact .same rfl; exact .same (by simp)]

theorem State.lockedBad_passes (s : State) : s.LinkPasses s.lockedBad := by
  unfold State.lockedBad
  split <;> [exact (State.handleEntry_passes _ _).since rfl; exact .same (by simp)]

theorem State.resyncRecord_passes (s : State) (good : Bool) (m : Metrics) :
    s.LinkPasses (s.resyncRecord good m) := by
  unfold State.resyncRecord
  dsimp only
  (repeat' split) <;> [exact (State.lock_passes _ m).since rfl;
    exact (State.enterSearch_retreats _).passes.since rfl; exact .same rfl]

/-- R152 to R158: a record makes one passage at most. -/
theorem State.takeMetrics_passes (s : State) (bs : List Byte) : s.LinkPasses (s.takeMetrics bs) := by
  unfold State.takeMetrics
  dsimp only
  split
  case h_1 => exact .same rfl
  case h_2 => exact (State.searchRecord_passes _ _ _).since rfl
  case h_3 => split <;> [exact (State.lockedGood_passes _ _).since rfl; exact (State.lockedBad_passes _).since rfl]
  case h_4 => exact (State.resyncRecord_passes _ _ _).since rfl

theorem exec_passes (c : Instr) (s t : State) (he : exec c s = .next t) : s.LinkPasses t := by
  by_cases hc : ∃ bytes, c = .rxMetrics bytes
  · obtain ⟨bytes, rfl⟩ := hc
    cases he
    unfold State.unlessHeld
    split <;> [exact .same rfl; exact s.takeMetrics_passes _]
  · exact (exec_retreats c s t (fun bytes hb => hc ⟨bytes, hb⟩) he).passes

theorem step_passes (s t : State) (he : step s = .next t) : s.LinkPasses t := by
  unfold step at he
  split at he
  · cases he
    exact s.tick_retreats.passes
  · exact (exec_passes _ _ t he).since rfl

/-- Settles O60: RX_METRICS by the entries of one record, everything else by what leaves the link state, stops the link
or falls back to SYNC. -/
theorem linkTransitions : Obligations.LinkTransitions := by
  unfold Obligations.LinkTransitions
  exact fun s t he => (step_passes s t he).transition

end Sys2Proof.Machine
end

section
/-! LINK_START and LINK_STOP from every link state (R137, R138). -/

namespace Sys2Proof.Machine

/-! ## A request that carries nothing (R173) -/

/-- R173: the state with what a request was served, and its reply queued. -/
def Served.answers (r : Served) (m : Message) : State := r.state.queueReply (replyTo m r.status r.payload)

theorem done_answers (s : State) (m : Message) : (done s).answers m = s.replied m 0#8 [] := rfl

theorem refusal_answers (st : Status) (s : State) (m : Message) :
    (refusal st s).answers m = s.replied m st.code [] := rfl

/-- R173: a request without a payload, taken by its row. -/
theorem State.Ready.takeBare_eq {s : State} {m : Message} {kind : Byte} (h : s.Ready m) (hkind : m.kind = kind)
    (hpayload : m.payload = []) (f : State → Served) :
    s.unlessHeld (·.take kind 0 fun _ => f) = (f s.dropRequest).answers m := by
  have htake := h.take_eq fun _ => f
  rwa [hkind, hpayload] at htake

/-! ## LINK_START (R137) -/

section
variable {s : State} {m : Message}

theorem exec_linkStart (h : s.Ready m) (hkind : m.kind = 0x07#8) (hpayload : m.payload = []) :
    exec .linkStart s = .next ((serveLinkStart s.dropRequest).answers m) :=
  congrArg Host.Outcome.next (h.takeBare_eq hkind hpayload serveLinkStart)

theorem serveLinkStart_config (h : s.link.state = .config) : serveLinkStart s = done s.startLink := if_pos h

theorem serveLinkStart_refused (h : s.link.state ≠ .config) : serveLinkStart s = refusal .wrongState s := if_neg h

end

/-- R137, R142, R151: LINK_START enters SYNC, with the acquisition timer loaded, the intake in SEARCH and no halt notice
owed. -/
theorem State.startLink_eq (s : State) : s.startLink = State.atSync { s with
    link := { s.link with acqTimer := some s.settings.acqTimeout, farWatch := 0, missing := 0 }
    intake := { s.intake with state := .search, runLen := 0, badCount := 0, resyncCount := 0, silence := none }
    tx := { s.tx with haltCount := 0 } } :=
  congrArg State.loadAcqTimer (State.enterSync_eq _)

/-- Settles O23: the start as an entry to SYNC. -/
theorem linkStartAnswers : Obligations.LinkStartAnswers := by
  unfold Obligations.LinkStartAnswers
  intro s m hready hkind hpayload
  rw [exec_linkStart hready hkind hpayload]
  refine ⟨fun hout => ?_, fun hin => ?_⟩
  · rw [serveLinkStart_refused (s := s.dropRequest) hout]
    rfl
  · rw [serveLinkStart_config (s := s.dropRequest) hin, State.startLink_eq]
    rfl

/-! ## LINK_STOP (R138) -/

section
variable {s : State} {m : Message}

theorem exec_linkStop (h : s.Ready m) (hkind : m.kind = 0x08#8) (hpayload : m.payload = []) :
    exec .linkStop s = .next ((serveLinkStop s.dropRequest).answers m) :=
  congrArg Host.Outcome.next (h.takeBare_eq hkind hpayload serveLinkStop)

theorem serveLinkStop_refused (h : s.link.state = .config) : serveLinkStop s = refusal .wrongState s := if_pos h

theorem serveLinkStop_stops (h : s.link.state ≠ .config) : serveLinkStop s = done s.stopLink := if_neg h

end

/-- R114, R116, R133, R138, R151, R164: what LINK_STOP leaves from SYNC, CAPS and RUN alike. -/
def State.stopped (s : State) : State :=
  { s with
    link := { s.link with state := .config, acqTimer := none, farWatch := 0, missing := 0 }
    intake := { s.intake with state := .idle, runLen := 0, badCount := 0, resyncCount := 0, silence := none }
    tx := { s.tx with active := 0, staged := none, haltCount := 32 }
    power := { s.power with request := .none, rateCount := 0 }
    monitor := { s.monitor with degraded := true } }

/-- R78, R85, R97, R103, R138: what LINK_STOP leaves from RUN, the Fade Tracker apart. -/
def State.stoppedRun (s : State) : State :=
  { s.stopped with
    hop := { s.hop with r := 0, lane := State.reset.hop.lane, answer := State.reset.hop.answer }
    decision := { State.reset.decision with force := s.decision.force } }

theorem State.stopCommon_eq (s : State) : s.stopCommon = s.stopped := by
  simp [State.stopCommon, State.stopped, State.markDegraded, State.isDegraded, Intake.set, TransmitRecord.linkEvent,
    PowerControl.linkEvent, Config.haltNoticeLength]

theorem State.stopLink_outside (s : State) (h : s.link.state ≠ .run) : s.stopLink = s.stopped :=
  (if_neg h).trans s.stopCommon_eq

theorem State.stopLink_run (s : State) (h : s.link.state = .run) :
    s.stopLink = s.stoppedRun.fadeLinkEvent .stopped := by
  rw [State.stopLink, if_pos h, State.stopCommon_eq]
  rfl

/-! ### The fade at a link event (R50, R53) -/

/-- R50: with no fade open both runs are emptied, and nothing is raised. -/
theorem State.fadeLinkEvent_clear (s : State) (why : EndedBy) (h : s.fade.openFade = none) :
    s.fadeLinkEvent why = { s with fade := { s.fade.emptyRuns with justClosed := false } } := by
  have hin : s.fade.inFade = false := congrArg Option.isSome h
  simp [State.fadeLinkEvent, State.raiseIf, hin, s.fade.linkEvent_clear _ why h]

/-- R49, R50, R53: an open fade closes into the log, its exit run folded in. -/
theorem FadeTracker.linkEvent_closes {f : FadeTracker} {o : OpenFade} (set : Settings) (why : EndedBy)
    (h : f.openFade = some o) (hlog : f.log.length ≤ 32) : (f.linkEvent set why).longMark = false ∧
      ∃ r, (f.linkEvent set why).log = newest 32 (f.log ++ [r]) ∧ r.ClosesOnLink o f set why := by
  rw [f.linkEvent_open set why o h]
  exact ⟨rfl, _, appendLog_newest _ _ hlog, _, o.foldIn_foldsTo f, OpenFade.close_closes _ _ _⟩

/-- R50, R53, R177: with a fade open FADE_END is raised, and FADE_LOG_DROP where the log is full. -/
theorem State.fadeLinkEvent_hasFlag (s : State) (why : EndedBy) (g : EventFlag) : (s.fadeLinkEvent why).hasFlag g =
    (s.hasFlag g || (s.fade.inFade && logFull s.fade.log && decide (g.num = EventFlag.fadeLogDrop.num)) ||
      (s.fade.inFade && decide (g.num = EventFlag.fadeEnd.num))) := by
  unfold State.fadeLinkEvent
  rw [State.hasFlag_raiseIf, State.hasFlag_raiseIf]
  rfl

/-- R174, R182: of the two queues a change has only appended EVENT notices, and to the output queue alone. -/
def HostLink.Notifies (h h' : HostLink) : Prop :=
  h'.inBuf = h.inBuf ∧ ∃ notices, h'.outQueue = h.outQueue ++ notices ∧ ∀ x ∈ notices, x.kind = 0x41#8

theorem HostLink.Notifies.refl (h : HostLink) : h.Notifies h := ⟨rfl, [], (List.append_nil _).symm, nofun⟩

theorem HostLink.Notifies.trans {a b c : HostLink} (hab : a.Notifies b) (hbc : b.Notifies c) : a.Notifies c := by
  obtain ⟨hbuf, xs, hxs, hkind⟩ := hab
  obtain ⟨hbuf', ys, hys, hkind'⟩ := hbc
  refine ⟨hbuf'.trans hbuf, xs ++ ys, ?_, fun x hx => (List.mem_append.1 hx).elim (hkind x) (hkind' x)⟩
  rw [hys, hxs, List.append_assoc]

/-- R174, R177: a cause queues one EVENT notice at most. -/
theorem HostLink.notifies_raise (h : HostLink) (f : EventFlag) : h.Notifies (h.raise f) := by
  refine ⟨h.raise_inBuf f, ?_⟩
  have hnone := (HostLink.Notifies.refl h).2
  unfold HostLink.raise HostLink.notice
  dsimp only
  (repeat' split) <;> [exact hnone; exact ⟨[_], rfl, by simp [eventNotice]⟩; exact hnone; exact hnone]

theorem State.raiseIf_notifies (s : State) (c : Bool) (f : EventFlag) : s.host.Notifies (s.raiseIf c f).host := by
  cases c <;> [exact .refl _; exact s.host.notifies_raise f]

theorem State.fadeLinkEvent_notifies (s : State) (why : EndedBy) : s.host.Notifies (s.fadeLinkEvent why).host :=
  .trans (State.raiseIf_notifies { s with fade := _ } _ _) (State.raiseIf_notifies _ _ _)

/-- Settles O24: the stop common to the three link states, and from RUN what the fade makes of it. -/
theorem linkStopAnswers : Obligations.LinkStopAnswers := by
  unfold Obligations.LinkStopAnswers
  intro s m hready hkind hpayload stopped
  rw [exec_linkStop hready hkind hpayload]
  refine ⟨fun hconfig => ?_, fun hacq => ?_, fun hrun hclear => ?_, fun o hrun hopen hlog => ?_⟩
  · rw [serveLinkStop_refused (s := s.dropRequest) hconfig]
    rfl
  · have hconfig : s.link.state ≠ .config := by rcases hacq with h | h <;> simp [h]
    have hrun : s.link.state ≠ .run := by rcases hacq with h | h <;> simp [h]
    rw [serveLinkStop_stops (s := s.dropRequest) hconfig, State.stopLink_outside s.dropRequest hrun]
    rfl
  all_goals
    have hconfig : s.link.state ≠ .config := by simp [hrun]
    rw [serveLinkStop_stops (s := s.dropRequest) hconfig, State.stopLink_run s.dropRequest hrun, done_answers]
  · rw [State.fadeLinkEvent_clear s.dropRequest.stoppedRun _ hclear]
    rfl
  · have hin : s.fade.inFade = true := congrArg Option.isSome hopen
    have hflag (g : EventFlag) : ((s.dropRequest.stoppedRun.fadeLinkEvent .stopped).replied m 0#8 []).hasFlag g =
        (s.hasFlag g || (s.fade.inFade && logFull s.fade.log && decide (g.num = EventFlag.fadeLogDrop.num)) ||
          (s.fade.inFade && decide (g.num = EventFlag.fadeEnd.num))) := State.fadeLinkEvent_hasFlag _ _ g
    obtain ⟨hnone, hentry, hexit, hid⟩ := s.fade.linkEvent_runs s.settings .stopped
    obtain ⟨hmark, closed, hclosed, hcloses⟩ := s.fade.linkEvent_closes s.settings .stopped hopen hlog
    obtain ⟨hbuf, notices, hqueue, hnotices⟩ := s.dropRequest.stoppedRun.fadeLinkEvent_notifies .stopped
    refine ⟨_, closed, rfl, rfl, rfl, rfl, rfl, rfl, rfl, rfl, rfl, rfl, rfl, rfl, rfl, rfl, hnone, hentry, hexit, hid,
      hmark, hclosed, hcloses, ?_, fun hfull => ?_, fun hroom => ?_, ?_, notices, ?_, hnotices⟩
    · simp [hflag, hin]
    · simp [hflag, hin, logFull, Config.fadeLogCapacity, hfull]
    · have hnot : logFull s.fade.log = false := decide_eq_false (Nat.not_le_of_lt hroom)
      simp [hflag, hnot, EventFlag.num]
    · exact hbuf.trans List.drop_one
    · rw [State.replied, hqueue, hkind]
      rfl

end Sys2Proof.Machine
end

section
/-! RESTART: the request, and the restart when its reply has been sent (R148, R181). -/

namespace Sys2Proof.Machine

section
variable {s : State} {m : Message}

theorem exec_restart (h : s.Ready m) (hkind : m.kind = 0x13#8) (hpayload : m.payload = []) :
    exec .restart s = .next ((serveRestart s.dropRequest).answers m) :=
  congrArg Host.Outcome.next (h.takeBare_eq hkind hpayload serveRestart)

/-- R181: the OK reply of a RESTART is the message being sent. -/
theorem State.restartDue_of_reply (hrestart : s.host.restarting = true) (hfront : s.host.outQueue.head? = some m)
    (hkind : m.kind = 0x93#8) (hpayload : m.payload = [0#8]) : s.restartDue = true := by
  simp [State.restartDue, isRestartReply, hrestart, hfront, hkind, hpayload]

/-! R148, R181: the two rows of the one event (assumption 19). -/

theorem exec_messageSent_restart (hs : s.Running) (hdue : s.restartDue = true) :
    exec .messageSent s = .next s.restartNow :=
  congrArg Host.Outcome.next ((State.unlessHeld_running hs _).trans (if_pos hdue))

theorem exec_restartTakesEffect (hs : s.Running) (hdue : s.restartDue = true) :
    exec .restartTakesEffect s = .next s.restartNow :=
  congrArg Host.Outcome.next ((State.unlessHeld_running hs _).trans (if_pos hdue))

end

/-- R164: the intake leaves LOCKED at a restart, and the second is degraded. -/
theorem State.restartNow_monitor (s : State) : s.restartNow.monitor = { s.monitor with degraded := true } := by
  simp [State.restartNow, State.markDegraded, State.isDegraded, Intake.set]

/-- R50: at a restart the Fade Tracker makes the changes of a link event. -/
theorem State.restartNow_fade (s : State) : s.restartNow.fade = s.fade.linkEvent s.settings .restart := rfl

/-- Settles O33: the two rows by the one restart they make, the fade by what a link event makes of it. -/
theorem restartAnswersAndTakesEffect : Obligations.RestartAnswersAndTakesEffect := by
  unfold Obligations.RestartAnswersAndTakesEffect
  refine fun s => ⟨fun m hready hkind hpayload => ?_, fun m hs hrestart hfront hkind hpayload => ?_⟩
  · exact exec_restart hready hkind hpayload
  · have hdue := State.restartDue_of_reply hrestart hfront hkind hpayload
    obtain ⟨hnone, -, -, hid⟩ := s.fade.linkEvent_runs s.settings .restart
    refine ⟨s.restartNow, exec_messageSent_restart hs hdue, exec_restartTakesEffect hs hdue, rfl, rfl, rfl, rfl, rfl,
      rfl, rfl, rfl, s.restartNow_monitor, rfl, rfl, hid, hnone, fun hclear => ?_, fun o hopen hlog => ?_⟩
    · rw [s.restartNow_fade, s.fade.linkEvent_clear _ _ hclear]
      rfl
    · obtain ⟨hmark, r, hlog, hcloses⟩ := s.fade.linkEvent_closes s.settings .restart hopen hlog
      exact ⟨r, hlog, hcloses, hmark⟩

end Sys2Proof.Machine
end

section
/-! Power-on, the RESET line held and released, and one millisecond with no command waiting (R147, R151, R171; the
model's choice, assumption 5). -/

namespace Sys2Proof.Machine

/-! ## The RESET line asserted (R147, R151) -/

/-- R147: a held controller stays as it stands. -/
theorem State.unlessHeld_held {s : State} (h : s.resetLine.asserted = true) (f : State → State) : s.unlessHeld f = s :=
  if_pos h

/-- R147: every row but POWER_ON and RESET_LINE_RELEASE is handled by a running controller alone. -/
theorem exec_unlessHeld (c : Instr) (hpower : ∀ a b d, c ≠ .powerOn a b d)
    (hrelease : ∀ a b, c ≠ .resetLineRelease a b) : ∃ f : State → State, ∀ s, exec c s = .next (s.unlessHeld f) := by
  cases c
  case powerOn => exact absurd rfl (hpower _ _ _)
  case resetLineRelease => exact absurd rfl (hrelease _ _)
  case unknownRecord => exact ⟨id, fun s => congrArg Host.Outcome.next (ite_self s).symm⟩
  all_goals exact ⟨_, fun _ => rfl⟩

/-- Settles O6: every other row is handled by a running controller alone. -/
theorem heldControllerTakesNothing : Obligations.HeldControllerTakesNothing := by
  unfold Obligations.HeldControllerTakesNothing
  intro c s hheld hpower hrelease
  obtain ⟨f, hf⟩ := exec_unlessHeld c hpower hrelease
  rw [hf, State.unlessHeld_held hheld]

/-! ## Power-on, and the release of the RESET line (R147, R171, R172) -/

/-- R147: POWER_ON with the RESET line released starts the controller. -/
theorem exec_powerOn_starts (spd1 spd0 : Bool) (s : State) :
    exec (.powerOn spd1 spd0 false) s = .next { State.reset with
      pending := s.pending, freeCount := s.freeCount
      host := { State.reset.host with rateCode := rateCodeOf spd1 spd0 } } := rfl

/-- R147: POWER_ON with the RESET line asserted holds the controller. -/
theorem exec_powerOn_holds (spd1 spd0 : Bool) (s : State) :
    exec (.powerOn spd1 spd0 true) s = .next { State.reset with
      pending := s.pending, freeCount := s.freeCount, resetLine := { asserted := true, coldStart := true }
      host := { State.reset.host with rateCode := rateCodeOf spd1 spd0, outQueue := [] } } := rfl

/-- R177: the enables after a reset. -/
theorem HostLink.defaultEnables_getLsbD (f : EventFlag) : HostLink.defaultEnables.getLsbD f.num = true ↔
    f ∈ [EventFlag.linkUp, .linkLoss, .starved, .swapTimeout, .hostOverrun] := by
  cases f <;> decide

/-- R2: profile 0 alone is enabled after a reset. -/
theorem ProfileTable.initial_row (p : Profile) (hp : p ≠ 0) : State.reset.table.active[p] =
    { enabled := false, modulation := .qpsk, codeRate := .half, capacity := 0, tDown := 0, tUp := 0
      backoff := 0 } := by
  revert p
  decide

/-- R176: the defaults, read by id. -/
theorem Settings.default_get : (List.range' 1 35).map State.reset.settings.get =
    [0, 8, 1, 4, 16, 4, 300, 60, 30, 3, 40000, 96, 20, 1, 32, 400, 1, 4, 4, 24, 64, 5000, 2000, 0, 10, 31,
     -100, -80, 8, 16, 8, 64, 20, 30, 10].map some := by
  decide

/-- Settles O5: the two starts as equations, and the values after a reset read off block by block. -/
theorem powerOnStarts : Obligations.PowerOnStarts := by
  unfold Obligations.PowerOnStarts
  refine ⟨fun spd1 spd0 s => ⟨exec_powerOn_starts spd1 spd0 s, exec_powerOn_holds spd1 spd0 s⟩, ?_⟩
  intro s
  refine ⟨⟨rfl, rfl, ProfileTable.initial_row, rfl, rfl, rfl, rfl, rfl, rfl, rfl⟩, ⟨rfl, rfl, rfl, rfl, rfl, rfl⟩,
    ⟨rfl, rfl, rfl, rfl, rfl, rfl, rfl⟩, rfl, rfl, rfl, rfl, rfl, ⟨rfl, rfl, rfl, rfl, rfl, rfl, rfl, rfl⟩, rfl, rfl,
    ⟨rfl, rfl⟩, ⟨rfl, rfl, HostLink.defaultEnables_getLsbD, rfl, rfl⟩, Settings.default_get⟩

/-- R147: the release starts a held controller, with its cause. -/
theorem exec_resetLineRelease_held (spd1 spd0 : Bool) (s : State) (h : s.resetLine.asserted = true) :
    exec (.resetLineRelease spd1 spd0) s = .next (State.queueStarted
      { s.resetBlocks s.resetLine.cause s.monitor.release (rateCodeOf spd1 spd0) with
        resetLine := { asserted := false, coldStart := false } } s.resetLine.cause) :=
  congrArg Host.Outcome.next (if_pos h)

/-- Settles O8: the cause of the start, and what it shows in STARTED. -/
theorem resetLineReleaseStarts : Obligations.ResetLineReleaseStarts := by
  unfold Obligations.ResetLineReleaseStarts
  refine fun spd1 spd0 s => ⟨fun hheld => ?_, fun hs => congrArg Host.Outcome.next (if_neg (ne_true_of_eq_false hs))⟩
  rw [exec_resetLineRelease_held spd1 spd0 s hheld, ResetLine.cause]
  cases s.resetLine.coldStart <;> rfl

/-! ## One millisecond, short of every end (assumption 5) -/

section
variable {s : State}

/-- R142: the acquisition timer, short of its end. -/
theorem State.tickAcq_short (h : ∀ n, s.link.acqTimer = some n → 2 ≤ n) :
    s.tickAcq = { s with link := { s.link with acqTimer := s.link.acqTimer.map (· - 1) } } := by
  unfold State.tickAcq
  split
  · next hn => rw [show s.link.acqTimer.map (· - 1) = s.link.acqTimer by simp [hn]]
  · next n hn =>
    rw [if_neg (Nat.not_le_of_lt (h n hn)), hn]
    rfl

/-- R158: the silence timer, short of its end. -/
theorem State.tickSilence_short (h : ∀ n, s.intake.silence = some n → 2 ≤ n) :
    s.tickSilence = { s with intake := { s.intake with silence := s.intake.silence.map (· - 1) } } := by
  unfold State.tickSilence
  split
  · next hn => rw [show s.intake.silence.map (· - 1) = s.intake.silence by simp [hn]]
  · next n hn =>
    rw [if_neg (Nat.not_le_of_lt (h n hn)), hn]
    rfl

/-- R172: the inter-byte time, short of its end. -/
theorem State.tickReceiver_short (h : s.host.collecting.isSome → s.host.quiet < 10) : s.tickReceiver =
    { s with host := { s.host with
      quiet := if s.host.collecting.isSome then s.host.quiet + 1 else s.host.quiet } } := by
  unfold State.tickReceiver Config.interByteLimit
  split
  · next hc => rw [if_neg (by simpa using hc)]
  · next hc =>
    have hsome : s.host.collecting.isSome = true :=
      Option.isSome_iff_ne_none.2 (mt Option.isNone_iff_eq_none.2 hc)
    rw [if_neg (Nat.not_le_of_lt (h hsome)), if_pos hsome]

/-- R164: the second in progress, short of its end. -/
theorem State.tickSecond_short (h : s.monitor.millis < 999) :
    s.tickSecond = { s with monitor := { s.monitor with millis := s.monitor.millis + 1 } } :=
  if_neg (Nat.not_le_of_lt h)

end

/-- Settles O2: the four timers one after another, none of them at its end. -/
theorem idleStepIsOneMillisecond : Obligations.IdleStepIsOneMillisecond := by
  unfold Obligations.IdleStepIsOneMillisecond
  intro s hidle
  have hstep : step s = .next s.tick := by rw [step, hidle]
  rw [hstep]
  refine ⟨fun hheld => congrArg _ (State.unlessHeld_held hheld _), fun hs hacq hsilence hquiet hmillis => ?_⟩
  rw [State.tick, State.unlessHeld_running hs, State.tickAcq_short hacq, State.tickSilence_short,
    State.tickReceiver_short, State.tickSecond_short]
  exacts [hmillis, hquiet, hsilence]

end Sys2Proof.Machine
end

section
/-! The modem link: the silence timer's end in every intake state, the records that change nothing, and the slots that
wait while a descriptor is returned (R150, R152, R158, R161). -/

namespace Sys2Proof.Machine

section
variable {s : State}

/-! ## Expiry of the silence timer (R158) -/

/-- R158: the expiry of a running silence timer is handled by the intake. -/
theorem exec_silenceTimerExpiry (hs : s.Running) (hn : s.intake.silence.isSome) :
    exec .silenceTimerExpiry s = .next s.expireSilence :=
  congrArg Host.Outcome.next ((State.unlessHeld_running hs _).trans (if_pos hn))

theorem State.expireSilence_search (hi : s.intake.state = .search) :
    s.expireSilence = { s with intake := { s.intake with runLen := 0, silence := none } } := by
  simp [State.expireSilence, hi]

theorem State.expireSilence_locked (hi : s.intake.state = .locked) : s.expireSilence = s.enterResync.loadSilence := by
  simp [State.expireSilence, hi]

theorem State.expireSilence_resync (hi : s.intake.state = .resync) :
    s.expireSilence = State.enterSearch { s with intake := { s.intake with silence := none } } := by
  simp [State.expireSilence, hi]

end

/-- R156, R158: the state as the intake enters RESYNC with the silence timer loaded: the load and the flags raised
before it touch different parts of the state. -/
theorem State.enterResync_loadSilence (s : State) : s.enterResync.loadSilence = (State.raise .resync { s with
      intake := { s.intake with state := .resync, runLen := 0, resyncCount := 0, badCount := 0
                                silence := some s.settings.recordTimeout }
      est := { s.est with starved := true }
      monitor := { s.monitor with degraded := true } }).raiseIf (!s.est.starved) .starved := by
  rw [State.enterResync_eq]
  rfl

/-- Settles O39: the three intake states in which the timer runs, the fall to SEARCH by what the link makes of it. -/
theorem silenceExpiry : Obligations.SilenceExpiry := by
  unfold Obligations.SilenceExpiry
  intro s hs hn
  dsimp only
  rw [exec_silenceTimerExpiry hs hn]
  refine ⟨fun hsearch => ?_, fun hlocked => ?_, fun hresync => ?_⟩
  · rw [State.expireSilence_search hsearch]
  · rw [State.expireSilence_locked hlocked, State.enterResync_loadSilence]
  · rw [State.expireSilence_resync hresync, State.enterSearch_eq]
    refine ⟨fun hrun => ?_, fun hcaps => ?_, fun hsync => ?_⟩
    · exact ⟨_, congrArg _ (State.searchReached_run _ hrun), State.linkLoss_losesLink _⟩
    · exact congrArg _ (State.searchReached_caps _ hcaps)
    · exact congrArg _ (State.searchReached_rest _ (.inl hsync))

/-! ## Records that change nothing (R150, R152) -/

theorem exec_unknownRecord (bytes : List Byte) (s : State) : exec (.unknownRecord bytes) s = .next s := rfl

/-- R152: in IDLE a record is ignored, before its check. -/
theorem State.takeMetrics_idle (s : State) (bs : List Byte) (hi : s.intake.state = .idle) : s.takeMetrics bs = s := by
  simp [State.takeMetrics, hi]

/-- Settles O34: a controller held ignores the record like one in IDLE. -/
theorem ignoredRecords : Obligations.IgnoredRecords := by
  unfold Obligations.IgnoredRecords
  refine ⟨exec_unknownRecord, fun rest s hi => ?_⟩
  have htaken : s.unlessHeld (·.takeMetrics (0xD1#8 :: rest)) = s := by
    rw [State.unlessHeld, s.takeMetrics_idle _ hi, ite_self]
  exact congrArg Host.Outcome.next htaken

/-! ## Slots (R107, R161) -/

section
variable {s : State}

/-- R107, R161: a slot of a running controller is taken by the intake. -/
theorem exec_txSlot (hs : s.Running) (rest : List Byte) (txlim : Bool) :
    exec (.txSlot rest txlim) s = .next (s.takeSlot (0xD2#8 :: rest) txlim) :=
  congrArg Host.Outcome.next (State.unlessHeld_running hs _)

theorem exec_descriptorSent (hs : s.Running) (txlim : Bool) :
    exec (.descriptorSent txlim) s = .next (s.finishDescriptor txlim) :=
  congrArg Host.Outcome.next (State.unlessHeld_running hs _)

/-- R161: no descriptor is being returned, and no slot waits. -/
def State.lineIdle (s : State) : State := { s with intake := { s.intake with sending := none, waiting := none } }

theorem State.lineIdle_running (hs : s.Running) : s.lineIdle.Running := hs

/-! R161: the three cases of a slot that arrives, and the two of a descriptor that has been sent. -/

theorem State.takeSlot_free (hd : s.intake.sending = none) (bs : List Byte) (txlim : Bool) :
    s.takeSlot bs txlim = s.slotEvent (parseSlot bs) txlim := by
  simp [State.takeSlot, hd]

theorem State.takeSlot_waits {d : Sending} (hd : s.intake.sending = some d) (hw : s.intake.waiting = none)
    (bs : List Byte) (txlim : Bool) :
    s.takeSlot bs txlim = { s with intake := { s.intake with waiting := some (parseSlot bs) } } := by
  simp [State.takeSlot, hd, hw]

theorem State.takeSlot_discarded {d : Sending} {x : SlotRecord} (hd : s.intake.sending = some d)
    (hw : s.intake.waiting = some x) (bs : List Byte) (txlim : Bool) : s.takeSlot bs txlim = s := by
  simp [State.takeSlot, hd, hw]

theorem State.finishDescriptor_idle {d : Sending} (hd : s.intake.sending = some d) (hw : s.intake.waiting = none)
    (txlim : Bool) : s.finishDescriptor txlim = { s with intake := { s.intake with sending := none } } := by
  simp [State.finishDescriptor, hd, hw]

theorem State.finishDescriptor_next {d : Sending} {x : SlotRecord} (hd : s.intake.sending = some d)
    (hw : s.intake.waiting = some x) (txlim : Bool) : s.finishDescriptor txlim = s.lineIdle.slotEvent x txlim := by
  simp [State.finishDescriptor, hd, hw, State.lineIdle]

end

/-! ### What a slot leaves in the intake (R107) -/

/-- R107: the intake `i` with the descriptor `d` being returned, as the twelve bytes of its record. -/
def Intake.returning (i : Intake) (d : Descriptor) : Intake :=
  { i with sending := some { descriptor := d, record := d.record } }

theorem State.send_intake (s : State) (d : Descriptor) : (s.send d).intake = s.intake.returning d := rfl

theorem State.slotFinish_intake (s : State) (echo : FrameNo) (txlim : Bool) :
    ∃ d, (s.slotFinish echo txlim).intake = s.intake.returning d :=
  ⟨_, (State.send_intake _ _).trans (congrArg (Intake.returning · _) (by simp))⟩

theorem State.slotIdle_intake (s : State) (echo : FrameNo) (txlim : Bool) :
    ∃ d, (s.slotIdle echo txlim).intake = s.intake.returning d :=
  ⟨_, (State.send_intake _ _).trans (congrArg (Intake.returning · _) (by simp))⟩

/-- R107: a slot returns a descriptor, in RUN and outside it, and leaves the rest of the intake alone. -/
theorem State.slotEvent_intake (s : State) (x : SlotRecord) (txlim : Bool) :
    ∃ d, (s.slotEvent x txlim).intake = s.intake.returning d := by
  unfold State.slotEvent
  dsimp only
  split
  · simp only [State.trySwapAt_frame, State.reportInSlot_frame]
    exact (State.slotFinish_intake _ _ _).imp fun _ hd => hd.trans (congrArg (Intake.returning · _) (by simp))
  · simp only [State.trySwapAt_frame]
    exact (State.slotIdle_intake _ _ _).imp fun _ hd => hd.trans (congrArg (Intake.returning · _) (by simp))

/-- Settles O44: the slot that waits is taken by the line that its descriptor has left idle, and a slot returns a
descriptor. -/
theorem slotsWaitInTurn : Obligations.SlotsWaitInTurn := by
  unfold Obligations.SlotsWaitInTurn
  intro rest txlim s d hs hd
  dsimp only
  rw [exec_txSlot hs, exec_descriptorSent hs]
  refine ⟨fun hw => ?_, fun hw => ?_, fun hw => ?_, fun hw => ?_⟩
  · exact congrArg _ (State.takeSlot_waits hd hw _ txlim)
  · obtain ⟨x, hx⟩ := Option.isSome_iff_exists.mp hw
    rw [State.takeSlot_discarded hd hx]
  · rw [State.finishDescriptor_idle hd hw]
  · obtain ⟨e, he⟩ := s.lineIdle.slotEvent_intake (parseSlot (0xD2#8 :: rest)) txlim
    have hslot : exec (.txSlot rest txlim) s.lineIdle =
        .next (s.lineIdle.slotEvent (parseSlot (0xD2#8 :: rest)) txlim) :=
      (exec_txSlot (State.lineIdle_running hs) rest txlim).trans (congrArg _ (State.takeSlot_free rfl _ txlim))
    rw [State.finishDescriptor_next hd hw]
    exact ⟨hslot.symm, _, rfl, congrArg (·.sending.isSome) he, congrArg (·.waiting) he⟩

end Sys2Proof.Machine
end

section
/-! Performance Monitor: what a commitment does, one second and a list of them, and what a classified second does to the
pending window (R165 to R168). -/

namespace Sys2Proof.Machine

/-! ## A bin with seconds committed to it (R168) -/

/-- R168: a bin with a list of seconds committed to it, oldest first. -/
def Bin.commitAll (asUas : Bool) (b : Bin) (ps : List PendingSecond) : Bin :=
  ps.foldl (fun b p => b.commit p.cls asUas) b

@[simp] theorem Bin.commitAll_cons (asUas : Bool) (b : Bin) (p : PendingSecond) (ps : List PendingSecond) :
    b.commitAll asUas (p :: ps) = (b.commit p.cls asUas).commitAll asUas ps := rfl

/-- R166: seconds committed with their own classes. -/
theorem Bin.commitAll_own (ps : List PendingSecond) : ∀ b : Bin, b.commitAll false ps = b.withSeconds ps := by
  induction ps with
  | nil => exact fun _ => rfl
  | cons p ps ih =>
    intro b
    rw [Bin.commitAll_cons, ih]
    cases hp : p.cls <;> simp [Bin.withSeconds, Bin.commit, hp] <;> omega

/-- R167: seconds committed as unavailable. -/
theorem Bin.commitAll_uas (ps : List PendingSecond) : ∀ b : Bin,
    b.commitAll true ps = { b with seconds := b.seconds + ps.length, uas := b.uas + ps.length } := by
  induction ps with
  | nil => exact fun _ => rfl
  | cons p ps ih =>
    intro b
    rw [Bin.commitAll_cons, ih]
    simp [Bin.commit]
    omega

@[simp] theorem Bin.commitAll_seconds (asUas : Bool) (b : Bin) (ps : List PendingSecond) :
    (b.commitAll asUas ps).seconds = b.seconds + ps.length := by
  cases asUas <;> simp [Bin.commitAll_own, Bin.commitAll_uas, Bin.withSeconds]

/-! ## One commitment (R168) -/

section
variable {m : Monitor} {b : Bin} {p : PendingSecond}

theorem Monitor.commit_current (h : ∀ b, m.earlier = some b → b.number ≠ p.bin) (asUas : Bool) :
    m.commit p asUas = { monitor := { m with current := m.current.commit p.cls asUas }, closed := false } := by
  unfold Monitor.commit
  split
  · next b hb => rw [if_neg (h b hb)]
  · rfl

theorem Monitor.commit_earlier (hb : m.earlier = some b) (hp : p.bin = b.number) (h : b.seconds + 1 ≠ 900)
    (asUas : Bool) : m.commit p asUas =
      { monitor := { m with earlier := some (b.commit p.cls asUas) }, closed := false } := by
  unfold Monitor.commit
  rw [hb]
  exact (if_pos hp.symm).trans (if_neg h)

theorem Monitor.commit_closes (hb : m.earlier = some b) (hp : p.bin = b.number) (h : b.seconds + 1 = 900)
    (asUas : Bool) : m.commit p asUas =
      { monitor := { m with earlier := none, closed := appendClosed m.closed (b.commit p.cls asUas) }
        closed := true } := by
  unfold Monitor.commit
  rw [hb]
  exact (if_pos hp.symm).trans (if_pos h)

end

/-! ## Seconds committed one after another (R166 to R168) -/

theorem Monitor.commitAll_append (asUas : Bool) (ps qs : List PendingSecond) : ∀ m : Monitor,
    m.commitAll (ps ++ qs) asUas = (((m.commitAll ps asUas).1.commitAll qs asUas).1,
      (m.commitAll ps asUas).2 + ((m.commitAll ps asUas).1.commitAll qs asUas).2) := by
  induction ps with
  | nil => exact fun m => by simp [Monitor.commitAll]
  | cons p ps ih =>
    intro m
    rw [List.cons_append, Monitor.commitAll, ih, Monitor.commitAll]
    simp only [Prod.mk.injEq, true_and]
    omega

/-- Seconds that belong to the current bin close nothing. -/
theorem Monitor.commitAll_current (asUas : Bool) (ps : List PendingSecond) : ∀ m : Monitor,
    (∀ p ∈ ps, ∀ b, m.earlier = some b → b.number ≠ p.bin) →
    m.commitAll ps asUas = ({ m with current := m.current.commitAll asUas ps }, 0) := by
  induction ps with
  | nil => exact fun _ _ => rfl
  | cons p ps ih =>
    intro m h
    rw [Monitor.commitAll, Monitor.commit_current (h p List.mem_cons_self)]
    dsimp only
    rw [ih { m with current := m.current.commit p.cls asUas } fun q hq => h q (List.mem_cons_of_mem p hq)]
    rfl

theorem Monitor.commitAll_alone {m : Monitor} (h : m.earlier = none) (asUas : Bool) (ps : List PendingSecond) :
    m.commitAll ps asUas = ({ m with current := m.current.commitAll asUas ps }, 0) :=
  m.commitAll_current asUas ps fun _ _ b hb => by simp [h] at hb

/-- R168: the last of its 900 seconds closes the earlier bin. -/
theorem Monitor.commitAll_earlier (asUas : Bool) (ps : List PendingSecond) : ∀ (m : Monitor) (b : Bin),
    m.earlier = some b → ps ≠ [] → (∀ p ∈ ps, p.bin = b.number) → b.seconds + ps.length = 900 →
    m.commitAll ps asUas =
      ({ m with earlier := none, closed := appendClosed m.closed (b.commitAll asUas ps) }, 1) := by
  induction ps with
  | nil => exact fun _ _ _ h => absurd rfl h
  | cons p ps ih =>
    intro m b hb _ hbin hlen
    have hp : p.bin = b.number := hbin p List.mem_cons_self
    rw [List.length_cons] at hlen
    rw [Monitor.commitAll]
    by_cases hps : ps = []
    · subst hps
      rw [Monitor.commit_closes hb hp hlen]
      rfl
    · have hmore : 0 < ps.length := List.length_pos_iff.2 hps
      rw [Monitor.commit_earlier hb hp (by omega)]
      dsimp only
      rw [ih _ (b.commit p.cls asUas) rfl hps (fun q hq => hbin q (List.mem_cons_of_mem p hq))
        (by show b.seconds + 1 + ps.length = 900; omega)]
      rfl

/-- R168: the seconds of the earlier bin close it, and those of the current bin follow. -/
theorem Monitor.commitAll_both {m : Monitor} {b : Bin} {old new : List PendingSecond} (hb : m.earlier = some b)
    (hold : old ≠ []) (hbin : ∀ p ∈ old, p.bin = b.number) (hlen : b.seconds + old.length = 900) (asUas : Bool) :
    m.commitAll (old ++ new) asUas = ({ m with
      earlier := none, closed := appendClosed m.closed (b.commitAll asUas old)
      current := m.current.commitAll asUas new }, 1) := by
  rw [Monitor.commitAll_append, Monitor.commitAll_earlier asUas old m b hb hold hbin hlen]
  dsimp only
  rw [Monitor.commitAll_alone rfl]
  rfl

/-- R168: the ring keeps the newest 32. -/
theorem appendClosed_eq {ring : List Bin} (h : ring.length ≤ 32) (b : Bin) :
    appendClosed ring b = newest 32 (ring ++ [b]) := by
  unfold appendClosed newest Config.closedRingCapacity
  rw [List.length_append, List.length_singleton]
  split
  · next hfull => rw [List.drop_append_of_le_length (by omega), show ring.length + 1 - 32 = 1 by omega]
  · next hroom => rw [show ring.length + 1 - 32 = 0 by omega, List.drop_zero]

/-! ## A classified second (R166, R167) -/

/-- R166, R167: the second is of the kind that a pending run is made of. -/
def Monitor.ExtendsRun (m : Monitor) (p : PendingSecond) : Prop := m.availability = .available ↔ p.cls = .ses

/-- R166, R167: the pending window is emptied. -/
def Monitor.emptied (m : Monitor) : Monitor := { m with window := [] }

/-- R166, R167: the availability state a complete run leads to. -/
def Availability.other : Availability → Availability
  | .available => .unavailable
  | .unavailable => .available

section
variable {m : Monitor} {p : PendingSecond} {run : Nat}

theorem Monitor.extendsRun_iff :
    ((p.cls == .ses) != (m.availability == .unavailable)) = true ↔ m.ExtendsRun p := by
  unfold Monitor.ExtendsRun
  cases m.availability <;> cases p.cls <;> decide

theorem Monitor.account_waits (h : m.ExtendsRun p) (hshort : m.window = [] ∨ m.window.length + 1 < run) :
    m.account p run = { monitor := { m with window := m.window ++ [p] }, binsClosed := 0, changed := false } := by
  unfold Monitor.account
  dsimp only
  rw [if_pos (Monitor.extendsRun_iff.2 h), if_neg]
  rintro ⟨hw, hrun⟩
  rw [List.length_append, List.length_singleton] at hrun
  exact hshort.elim hw fun hs => by omega

/-- R166, R167: a complete run is committed whole, on the other side. -/
theorem Monitor.account_completes (h : m.ExtendsRun p) (hw : m.window ≠ []) (hrun : run ≤ m.window.length + 1)
    {n : Monitor} {k : Nat}
    (hc : m.emptied.commitAll (m.window ++ [p]) (!(m.availability == Availability.unavailable)) = (n, k)) :
    m.account p run =
      { monitor := { n with availability := m.availability.other }, binsClosed := k, changed := true } := by
  unfold Monitor.account
  dsimp only
  rw [if_pos (Monitor.extendsRun_iff.2 h), if_pos ⟨hw, by simpa using hrun⟩]
  rw [show { m with window := [] } = m.emptied from rfl, hc]
  cases m.availability <;> rfl

/-- R166, R167: a second of the other kind is committed on the present side, and a run that it breaks before it. -/
theorem Monitor.account_commits (h : ¬ m.ExtendsRun p) {n : Monitor} {k : Nat}
    (hc : m.emptied.commitAll (m.window ++ [p]) (m.availability == Availability.unavailable) = (n, k)) :
    m.account p run = { monitor := n, binsClosed := k, changed := false } := by
  unfold Monitor.account
  dsimp only
  rw [if_neg (mt Monitor.extendsRun_iff.1 h), show { m with window := [] } = m.emptied from rfl, hc]

end

end Sys2Proof.Machine
end

section
/-! The end of a second: its class, and what it makes of the run, the availability state and the bins (R164 to R168). -/

namespace Sys2Proof.Machine

/-- R165: the second in progress, as it would be classified now. -/
def State.secondInProgress (s : State) : PendingSecond :=
  { cls := classifySecond s.monitor s.settings.sesPercent, bin := s.monitor.current.number }

/-- R165: the class of a second. -/
theorem classifySecond_eq (m : Monitor) (sesPercent : Nat) : classifySecond m sesPercent =
    if m.degraded = true ∨ m.t = 0 ∨ sesPercent * m.t ≤ (m.u + m.h) * 100 then .ses
    else if m.u + m.h = 0 then .ok else .es := by
  unfold classifySecond
  split
  · rfl
  · by_cases hbad : m.u + m.h = 0
    · rw [if_neg (by omega), if_pos hbad]
    · rw [if_pos (by omega), if_neg hbad]

theorem State.isDegraded_eq (s : State) :
    s.isDegraded = decide (s.intake.state ≠ .locked ∨ s.link.state ≠ .run) := by
  rw [Bool.eq_iff_iff, decide_eq_true_iff, State.isDegraded_iff]

theorem Monitor.roll_within {m : Monitor} (h : m.secondIndex < 899) :
    m.roll = { m with secondIndex := m.secondIndex + 1 } :=
  if_neg (by show m.secondIndex + 1 ≠ 900; omega)

/-- Section 10.3: the 900th second of a bin ends. -/
theorem Monitor.roll_last {m : Monitor} (h : m.secondIndex = 899) : m.roll = { m with
    earlier := some m.current, current := Bin.fresh (nextBinNumber m.current.number), secondIndex := 0 } :=
  if_pos (by show m.secondIndex + 1 = 900; omega)

/-! ## What the handling of the second leaves, and the second after it (R164, R168) -/

section
variable {s : State} {p : PendingSecond} {n : Monitor} {k : Nat} {changed asUas : Bool}

/-- R164: the monitor `n` as the next second begins. -/
def State.nextSecond (s : State) (n : Monitor) : State :=
  { s with monitor := n.beginSecond (decide (s.intake.state ≠ .locked ∨ s.link.state ≠ .run)) }

theorem exec_secondEnd (hs : s.Running)
    (ha : s.monitor.roll.account s.secondInProgress s.settings.unavailRun =
      { monitor := n, binsClosed := k, changed := changed }) :
    exec .secondEnd s = .next (State.raiseIf changed .availabilityChange
      (State.raiseIf (decide (0 < k)) .binClosed (s.nextSecond n))) := by
  refine congrArg Host.Outcome.next ((State.unlessHeld_running hs _).trans ?_)
  unfold State.secondInProgress at ha
  unfold State.endSecond State.nextSecond
  simp only [ha, s.isDegraded_eq]

@[simp] theorem Monitor.roll_window (m : Monitor) : m.roll.window = m.window := by
  unfold Monitor.roll; split <;> rfl

@[simp] theorem Monitor.roll_availability (m : Monitor) : m.roll.availability = m.availability := by
  unfold Monitor.roll; split <;> rfl

theorem Monitor.roll_extendsRun (m : Monitor) : m.roll.ExtendsRun p ↔ m.ExtendsRun p := by
  unfold Monitor.ExtendsRun
  rw [Monitor.roll_availability]

/-- R166, R167: a run begins, or is extended short of unavail_run. -/
theorem exec_secondEnd_waits (hs : s.Running) (hp : s.secondInProgress = p) (h : s.monitor.ExtendsRun p)
    (hshort : s.monitor.window = [] ∨ s.monitor.window.length + 1 < s.settings.unavailRun) :
    exec .secondEnd s =
      .next (s.nextSecond { s.monitor.roll with window := s.monitor.window ++ [p] }) := by
  subst hp
  have ha := Monitor.account_waits ((Monitor.roll_extendsRun _).2 h) (by rwa [Monitor.roll_window])
  rw [Monitor.roll_window] at ha
  exact exec_secondEnd hs ha

/-- R166, R167: a run is complete. -/
theorem exec_secondEnd_completes (hs : s.Running) (hp : s.secondInProgress = p) (h : s.monitor.ExtendsRun p)
    (hw : s.monitor.window ≠ []) (hrun : s.settings.unavailRun ≤ s.monitor.window.length + 1)
    (hside : (!(s.monitor.availability == Availability.unavailable)) = asUas)
    (hc : s.monitor.roll.emptied.commitAll (s.monitor.window ++ [p]) asUas = (n, k)) :
    exec .secondEnd s = .next (State.raise .availabilityChange (State.raiseIf (decide (0 < k)) .binClosed
      (s.nextSecond { n with availability := s.monitor.availability.other }))) := by
  subst hp hside
  have ha := Monitor.account_completes (run := s.settings.unavailRun) (n := n) (k := k)
    ((Monitor.roll_extendsRun _).2 h) (by rwa [Monitor.roll_window]) (by rwa [Monitor.roll_window])
    (by rwa [Monitor.roll_window, Monitor.roll_availability])
  rw [Monitor.roll_availability] at ha
  exact exec_secondEnd hs ha

/-- R166, R167: a second of the other kind, and the run that it breaks. -/
theorem exec_secondEnd_commits (hs : s.Running) (hp : s.secondInProgress = p) (h : ¬ s.monitor.ExtendsRun p)
    (hside : (s.monitor.availability == Availability.unavailable) = asUas)
    (hc : s.monitor.roll.emptied.commitAll (s.monitor.window ++ [p]) asUas = (n, k)) :
    exec .secondEnd s = .next (State.raiseIf (decide (0 < k)) .binClosed (s.nextSecond n)) := by
  subst hp hside
  exact exec_secondEnd hs (Monitor.account_commits (mt (Monitor.roll_extendsRun _).1 h)
    (by rwa [Monitor.roll_window, Monitor.roll_availability]))

end

/-! ## The bins the seconds are committed to (R168) -/

section
variable {m : Monitor} {ps : List PendingSecond}

theorem Monitor.roll_commitAll_within (hi : m.secondIndex < 899) (he : m.earlier = none) (asUas : Bool) :
    m.roll.emptied.commitAll ps asUas = ({ m with
      secondIndex := m.secondIndex + 1, window := [], current := m.current.commitAll asUas ps }, 0) := by
  rw [Monitor.roll_within hi]
  exact Monitor.commitAll_alone (m := Monitor.emptied { m with secondIndex := m.secondIndex + 1 }) he asUas ps

/-- Section 10.3: the 900th second closes its own bin, where all of its seconds are committed with it. -/
theorem Monitor.roll_commitAll_last (hi : m.secondIndex = 899) (he : m.earlier = none) (hps : ps ≠ [])
    (hbin : ∀ p ∈ ps, p.bin = m.current.number) (hlen : m.current.seconds + ps.length = 900)
    (hring : m.closed.length ≤ 32) (asUas : Bool) :
    m.roll.emptied.commitAll ps asUas = ({ m with
      current := Bin.fresh (nextBinNumber m.current.number), secondIndex := 0, window := []
      closed := newest 32 (m.closed ++ [m.current.commitAll asUas ps]) }, 1) := by
  rw [Monitor.roll_last hi, he, ← appendClosed_eq hring]
  exact Monitor.commitAll_earlier asUas ps _ _ rfl hps hbin hlen

/-- R168: a run that reaches back into the earlier bin closes it. -/
theorem Monitor.roll_commitAll_both {b : Bin} {old new : List PendingSecond} (hi : m.secondIndex < 899)
    (hb : m.earlier = some b) (hold : old ≠ []) (hbin : ∀ p ∈ old, p.bin = b.number)
    (hlen : b.seconds + old.length = 900) (hring : m.closed.length ≤ 32) (asUas : Bool) :
    m.roll.emptied.commitAll (old ++ new) asUas = ({ m with
      secondIndex := m.secondIndex + 1, window := [], earlier := none
      closed := newest 32 (m.closed ++ [b.commitAll asUas old]), current := m.current.commitAll asUas new }, 1) := by
  rw [Monitor.roll_within hi, ← appendClosed_eq hring]
  exact Monitor.commitAll_both (m := Monitor.emptied { m with secondIndex := m.secondIndex + 1 }) hb hold hbin hlen
    asUas

end

/-- R167: seconds counted as unavailable, the one that ends among them. -/
theorem Bin.commitAll_uas_snoc (b : Bin) (ps : List PendingSecond) (p : PendingSecond) :
    b.commitAll true (ps ++ [p]) =
      { b with seconds := b.seconds + (ps.length + 1), uas := b.uas + (ps.length + 1) } := by
  rw [Bin.commitAll_uas, List.length_append, List.length_singleton]

/-! ## The four ways a run or a second is committed, by the availability state (R166, R167) -/

theorem Monitor.extendsRun_available {m : Monitor} {p : PendingSecond} (ha : m.availability = .available) :
    m.ExtendsRun p ↔ p.cls = .ses :=
  ⟨fun h => h.1 ha, fun h => iff_of_true ha h⟩

theorem Monitor.extendsRun_unavailable {m : Monitor} {p : PendingSecond} (ha : m.availability = .unavailable) :
    m.ExtendsRun p ↔ p.cls ≠ .ses := by
  unfold Monitor.ExtendsRun
  simp [ha]

section
variable {s : State} {p : PendingSecond} {n : Monitor} {k : Nat}

theorem exec_secondEnd_stays_available (hs : s.Running) (hp : s.secondInProgress = p)
    (ha : s.monitor.availability = .available) (hc : p.cls ≠ .ses)
    (h : s.monitor.roll.emptied.commitAll (s.monitor.window ++ [p]) false = (n, k)) :
    exec .secondEnd s = .next (State.raiseIf (decide (0 < k)) .binClosed (s.nextSecond n)) :=
  exec_secondEnd_commits hs hp (mt (Monitor.extendsRun_available ha).1 hc) (congrArg (· == _) ha) h

theorem exec_secondEnd_stays_unavailable (hs : s.Running) (hp : s.secondInProgress = p)
    (ha : s.monitor.availability = .unavailable) (hc : p.cls = .ses)
    (h : s.monitor.roll.emptied.commitAll (s.monitor.window ++ [p]) true = (n, k)) :
    exec .secondEnd s = .next (State.raiseIf (decide (0 < k)) .binClosed (s.nextSecond n)) :=
  exec_secondEnd_commits hs hp (fun hext => (Monitor.extendsRun_unavailable ha).1 hext hc) (congrArg (· == _) ha) h

theorem exec_secondEnd_turns_unavailable (hs : s.Running) (hp : s.secondInProgress = p)
    (ha : s.monitor.availability = .available) (hc : p.cls = .ses) (hw : s.monitor.window ≠ [])
    (hrun : s.settings.unavailRun ≤ s.monitor.window.length + 1)
    (h : s.monitor.roll.emptied.commitAll (s.monitor.window ++ [p]) true = (n, k)) :
    exec .secondEnd s = .next (State.raise .availabilityChange (State.raiseIf (decide (0 < k)) .binClosed
      (s.nextSecond { n with availability := .unavailable }))) := by
  rw [exec_secondEnd_completes hs hp ((Monitor.extendsRun_available ha).2 hc) hw hrun (congrArg (!· == _) ha) h, ha]
  rfl

theorem exec_secondEnd_turns_available (hs : s.Running) (hp : s.secondInProgress = p)
    (ha : s.monitor.availability = .unavailable) (hc : p.cls ≠ .ses) (hw : s.monitor.window ≠ [])
    (hrun : s.settings.unavailRun ≤ s.monitor.window.length + 1)
    (h : s.monitor.roll.emptied.commitAll (s.monitor.window ++ [p]) false = (n, k)) :
    exec .secondEnd s = .next (State.raise .availabilityChange (State.raiseIf (decide (0 < k)) .binClosed
      (s.nextSecond { n with availability := .available }))) := by
  rw [exec_secondEnd_completes hs hp ((Monitor.extendsRun_unavailable ha).2 hc) hw hrun (congrArg (!· == _) ha) h,
    ha]
  rfl

end

/-- Settles O46: the second joins the run, completes it, or is committed with what it breaks; and the bins that this
closes. -/
theorem secondEndCommits : Obligations.SecondEndCommits := by
  unfold Obligations.SecondEndCommits
  intro s hs m bad cls p begun fresh uas opened short
  have hp : s.secondInProgress = p := congrArg (PendingSecond.mk · m.current.number) (classifySecond_eq _ _)
  refine ⟨fun hidx hnone => ?within, fun hidx hnone => ⟨?single, fun hext hshort => ?_, ?run⟩,
    fun b hidx hb _ hring w new hw hwne hwbin _ hlen => ?both⟩
  case within =>
    have commits (u : Bool) := Monitor.roll_commitAll_within (ps := m.window ++ [p]) hidx hnone u
    have waits (hext : m.ExtendsRun p) (hshort : m.window = [] ∨ short) :
        exec .secondEnd s = .next { s with monitor := fresh { m with window := m.window ++ [p] } } := by
      rw [exec_secondEnd_waits hs hp hext hshort, Monitor.roll_within hidx]
      rfl
    refine ⟨fun ha hw hc => ?_, fun ha hw hc => ?_, fun ha hw hc => ?_, fun ha hw hc => ?_, fun ha hw hc hrun => ?_,
      fun ha hw hc hrun => ?_, fun hw hext hshort => waits hext (.inr hshort), fun ha hw hc => ?_, fun ha hw hc => ?_⟩
    · rw [exec_secondEnd_stays_available hs hp ha hc (commits false), hw, Bin.commitAll_own]
      rfl
    · rw [waits ((Monitor.extendsRun_available ha).2 hc) (.inl hw), hw]
      rfl
    · rw [exec_secondEnd_stays_unavailable hs hp ha hc (commits true), hw, Bin.commitAll_uas]
      rfl
    · rw [waits ((Monitor.extendsRun_unavailable ha).2 hc) (.inl hw), hw]
      rfl
    · rw [exec_secondEnd_turns_unavailable hs hp ha hc hw hrun (commits true), Bin.commitAll_uas_snoc]
      rfl
    · rw [exec_secondEnd_turns_available hs hp ha hc hw hrun (commits false), Bin.commitAll_own]
      rfl
    · rw [exec_secondEnd_stays_available hs hp ha hc (commits false), Bin.commitAll_own]
      rfl
    · rw [exec_secondEnd_stays_unavailable hs hp ha hc (commits true), Bin.commitAll_uas_snoc]
      rfl
  case single =>
    intro hw hsec hring hside
    have closes (u : Bool) := Monitor.roll_commitAll_last (ps := m.window ++ [p]) hidx hnone (by simp)
      (by simp [hw, p]) (by simp [hw, hsec]) hring u
    cases ha : m.availability with
    | available =>
      rw [exec_secondEnd_stays_available hs hp ha (hside.1 ha) (closes false), Bin.commitAll_own, hw, ha,
        if_pos rfl]
      rfl
    | unavailable =>
      have hc : cls = .ses := not_not.1 fun hc => by simpa [ha] using hside.2 hc
      rw [exec_secondEnd_stays_unavailable hs hp ha hc (closes true), Bin.commitAll_uas_snoc, hw, ha,
        if_neg (by simp)]
      rfl
  case run =>
    intro hw hbin hsec hring closing own lost
    have closes (u : Bool) := Monitor.roll_commitAll_last (ps := m.window ++ [p]) hidx hnone (by simp)
      (by simpa [or_imp, forall_and, p] using hbin) (by simp; omega) hring u
    refine ⟨fun ha hc => ?_, fun ha hc hrun => ?_, fun ha hc => ?_, fun ha hc hrun => ?_⟩
    · rw [exec_secondEnd_stays_available hs hp ha hc (closes false), Bin.commitAll_own, ha]
      rfl
    · rw [exec_secondEnd_turns_unavailable hs hp ha hc hw (Nat.not_lt.1 hrun) (closes true), Bin.commitAll_uas_snoc]
      rfl
    · rw [exec_secondEnd_stays_unavailable hs hp ha hc (closes true), Bin.commitAll_uas_snoc, ha]
      rfl
    · rw [exec_secondEnd_turns_available hs hp ha hc hw (Nat.not_lt.1 hrun) (closes false), Bin.commitAll_own]
      rfl
  case both =>
    have hall : m.window ++ [p] = w ++ (new ++ [p]) := by rw [hw, List.append_assoc]
    have closes (u : Bool) := Monitor.roll_commitAll_both (new := new ++ [p]) hidx hb hwne hwbin hlen hring u
    rw [← hall] at closes
    have hsome : m.window ≠ [] := by simp [hw, hwne]
    refine ⟨fun ha hc => ?_, fun ha hc hrun => ?_, fun ha hc => ?_, fun ha hc hrun => ?_, fun hext hshort => ?_⟩
    · rw [exec_secondEnd_stays_available hs hp ha hc (closes false), Bin.commitAll_own, Bin.commitAll_own, ha]
      rfl
    · rw [exec_secondEnd_turns_unavailable hs hp ha hc hsome hrun (closes true), Bin.commitAll_uas_snoc,
        Bin.commitAll_uas]
      rfl
    · rw [exec_secondEnd_stays_unavailable hs hp ha hc (closes true), Bin.commitAll_uas_snoc, Bin.commitAll_uas, ha]
      rfl
    · rw [exec_secondEnd_turns_available hs hp ha hc hsome hrun (closes false), Bin.commitAll_own, Bin.commitAll_own]
      rfl
    · rw [exec_secondEnd_waits hs hp hext (.inr hshort), Monitor.roll_within hidx]
      rfl
  · rw [exec_secondEnd_waits hs hp hext hshort, Monitor.roll_last hidx]
    rfl

end Sys2Proof.Machine
end

section
/-! READ_BIN: the request, the bin it selects, and the 89 bytes of a bin (R168, R169, R173, R183). -/

namespace Sys2Proof.Machine

/-- R169: READ_BIN, taken by its row. -/
theorem exec_readBin {s : State} {m : Message} {selector age : Byte} (h : s.Ready m) (hkind : m.kind = 0x0E#8)
    (hpayload : m.payload = [selector, age]) :
    exec .readBin s = .next ((serveReadBin [selector, age] s.dropRequest).answers m) := by
  have htake := h.take_eq serveReadBin
  rw [hkind, hpayload] at htake
  exact congrArg Host.Outcome.next htake

/-- R169: the part of the reply that does not depend on the selector. -/
def Monitor.readHead (m : Monitor) : List Byte :=
  le8 m.availability.code ++ le8 m.window.length ++ le8 (if m.earlier.isSome then 2 else 1) ++ le8 m.closed.length

theorem serveReadBin_refuses {selector age : Byte} (h : 2 < selector.toNat ∨ (selector = 2#8 ∧ 31 < age.toNat))
    (s : State) (m : Message) : (serveReadBin [selector, age] s).answers m = s.replied m 4#8 [] := by
  unfold serveReadBin
  exact (congrArg (Served.answers · m) (if_pos (h.imp id fun h => ⟨congrArg BitVec.toNat h.1, h.2⟩))).trans
    (refusal_answers _ s m)

theorem serveReadBin_reads {selector age : Byte} (h : selector.toNat ≤ 2) (hage : selector = 2#8 → age.toNat ≤ 31)
    (s : State) (m : Message) : (serveReadBin [selector, age] s).answers m =
      s.replied m 0#8 (s.monitor.readHead ++
        lePart ((s.monitor.select selector.toNat age.toNat).map Bin.bytes)) := by
  have hok : ¬ (2 < selector.toNat ∨ (selector.toNat = 2 ∧ 31 < age.toNat)) := by
    rintro (hs | ⟨hs, ha⟩)
    · omega
    · have := hage (BitVec.eq_of_toNat_eq hs)
      omega
  unfold serveReadBin
  exact congrArg (Served.answers · m) (if_neg hok)

/-- R169: age 0 is the newest closed bin. -/
theorem Monitor.select_closed (m : Monitor) {age : Nat} (h : age < m.closed.length) :
    m.select 2 age = m.closed[m.closed.length - 1 - age]? := List.getElem?_reverse h

theorem Monitor.select_none (m : Monitor) {age : Nat} (h : m.closed.length ≤ age) : m.select 2 age = none := by
  show m.closed.reverse[age]? = none
  simpa using h

/-- R168, R183: the bytes of a bin, field by field. -/
theorem Bin.bytes_eq (b : Bin) : b.bytes =
    le32 (BitVec.ofNat 32 b.number) ++ le16 (BitVec.ofNat 16 b.seconds) ++
      (if b.truncated then [1#8] else [0#8]) ++ le16 (BitVec.ofNat 16 b.es) ++ le16 (BitVec.ofNat 16 b.ses) ++
      le16 (BitVec.ofNat 16 b.uas) ++ b.perProfile.toList.flatMap (fun n => le32 (BitVec.ofNat 32 n)) ++
      le16 (BitVec.ofNat 16 b.downshifts) ++ le16 (BitVec.ofNat 16 b.upshifts) ++
      le16 (BitVec.ofNat 16 b.urgents) ++ le16 (BitVec.ofNat 16 b.fades) ++
      le16 (BitVec.ofNat 16 (b.minS.getD 0xFFFF)) ++ le16 (BitVec.ofNat 16 (b.maxS.getD 0xFFFF)) := by
  unfold Bin.bytes
  rw [← List.flatMap_def]
  cases b.truncated <;> rfl

/-- Settles O30: the check, the bin each selector finds, and its bytes. -/
theorem readBinAnswers : Obligations.ReadBinAnswers := by
  unfold Obligations.ReadBinAnswers
  intro s m selector age hready hkind hpayload head n16 n32 fields found
  rw [exec_readBin hready hkind hpayload]
  have hhead : s.monitor.readHead = head := by
    unfold Monitor.readHead
    show _ = [_, _, _, _]
    cases s.monitor.availability <;> cases s.monitor.earlier <;> rfl
  have hpart : ∀ o : Option Bin, lePart (o.map Bin.bytes) = found o
    | none => rfl
    | some b => congrArg (1#8 :: ·) b.bytes_eq
  have hreads (hsel : selector.toNat ≤ 2) (hage : selector = 2#8 → age.toNat ≤ 31) :
      (serveReadBin [selector, age] s.dropRequest).answers m =
        s.answered m 0#8 (head ++ found (s.monitor.select selector.toNat age.toNat)) := by
    rw [serveReadBin_reads hsel hage, State.dropRequest_monitor, hhead, hpart]
    rfl
  refine ⟨fun hbad => congrArg _ (serveReadBin_refuses hbad _ m), ?_, ?_, ?_, ?_⟩
  · rintro rfl
    exact congrArg _ (hreads (by decide) (by simp))
  · rintro rfl
    exact congrArg _ (hreads (by decide) (by simp))
  · rintro rfl hlen hage
    obtain ⟨b, hb⟩ : ∃ b, s.monitor.closed[s.monitor.closed.length - 1 - age.toNat]? = some b :=
      ⟨_, List.getElem?_eq_getElem (by omega)⟩
    exact ⟨b, hb, congrArg _ ((hreads (by decide) fun _ => hage).trans
      (congrArg (s.answered m 0#8 <| head ++ found ·) ((s.monitor.select_closed hlen).trans hb)))⟩
  · rintro rfl hlen hage
    exact congrArg _ ((hreads (by decide) fun _ => hage).trans
      (congrArg (s.answered m 0#8 <| head ++ found ·) (s.monitor.select_none hlen)))

end Sys2Proof.Machine
end

section
/-! The books of the Performance Monitor, the bins with their numbers and the pending window, kept by a second's end and
by the RESET line (R166 to R168, R171). -/

namespace Sys2Proof.Machine

/-! ## The bin numbers (R168) -/

/-- R168: the bin numbers, oldest first: the closed ring, and then the open bins. -/
def Monitor.numbers (m : Monitor) : List Nat := (m.closed ++ m.earlier.toList ++ [m.current]).map (·.number)

theorem Monitor.numbered_iff (m : Monitor) : m.Numbered ↔ consecutive m.numbers := Iff.rfl

theorem consecutive_iff : ∀ l : List Nat, consecutive l ↔ l.IsChain fun x y => y = nextBinNumber x
  | [] => by simp [consecutive]
  | [_] => by simp [consecutive]
  | x :: y :: l => by rw [consecutive, List.isChain_cons_cons, consecutive_iff (y :: l)]; rfl

/-- The oldest numbers may go. -/
theorem consecutive.suffix {l k : List Nat} (h : consecutive l) (hk : k <:+ l) : consecutive k :=
  (consecutive_iff k).2 (((consecutive_iff l).1 h).suffix hk)

/-- R168: the number of the next bin. -/
theorem Monitor.Numbered.next {m : Monitor} (h : m.Numbered) :
    consecutive (m.numbers ++ [nextBinNumber m.current.number]) := by
  rw [consecutive_iff, List.isChain_append]
  refine ⟨(consecutive_iff _).1 h, .singleton _, fun x hx y hy => ?_⟩
  simp_all [Monitor.numbers]

theorem appendClosed_suffix (ring : List Bin) (b : Bin) : appendClosed ring b <:+ ring ++ [b] := by
  unfold appendClosed
  refine List.suffix_append_self_iff.2 ?_
  split <;> [exact List.drop_suffix 1 ring; exact List.suffix_refl ring]

@[simp] theorem Bin.commit_number (cls : SecondClass) (asUas : Bool) (b : Bin) :
    (b.commit cls asUas).number = b.number := rfl

@[simp] theorem Bin.fresh_number (n : Nat) : (Bin.fresh n).number = n := rfl

theorem Monitor.numbers_eq (m : Monitor) : m.numbers =
    m.closed.map (·.number) ++ m.earlier.toList.map (·.number) ++ [m.current.number] := by
  simp [Monitor.numbers]

theorem Monitor.commit_numbers (m : Monitor) (p : PendingSecond) (asUas : Bool) :
    (m.commit p asUas).monitor.numbers <:+ m.numbers := by
  rw [Monitor.numbers_eq, m.numbers_eq]
  unfold Monitor.commit
  split
  · next b hb =>
    rw [hb]
    dsimp only
    (repeat' split)
    · have hclosed := (appendClosed_suffix m.closed (b.commit p.cls asUas)).map (·.number)
      simpa using List.suffix_append_self_iff (l₃ := [m.current.number]).2 hclosed
    · exact List.suffix_rfl
    · exact hb ▸ List.suffix_rfl
  · exact List.suffix_rfl

/-- R168: a commitment opens no bin: a bin that it closes stays in the row of numbers, and the oldest may go. -/
theorem Monitor.commitAll_numbers (asUas : Bool) (ps : List PendingSecond) : ∀ m : Monitor,
    (m.commitAll ps asUas).1.numbers <:+ m.numbers := by
  induction ps with
  | nil => exact fun m => List.suffix_rfl
  | cons p ps ih => exact fun m => (ih _).trans (m.commit_numbers p asUas)

theorem Monitor.account_numbers (m : Monitor) (p : PendingSecond) (run : Nat) :
    (m.account p run).monitor.numbers <:+ m.numbers := by
  unfold Monitor.account
  dsimp only
  split
  · split <;> [exact Monitor.commitAll_numbers _ _ m.emptied; exact List.suffix_rfl]
  · exact Monitor.commitAll_numbers _ _ m.emptied

/-- Section 10.3: the next bin opens with the next number. -/
theorem Monitor.Numbered.roll {m : Monitor} (h : m.Numbered) (he : m.secondIndex = 899 → m.earlier = none) :
    m.roll.Numbered := by
  unfold Monitor.roll
  split
  · next hlast =>
    have hnext := h.next
    rw [Monitor.numbers_eq, he (by simpa [Config.binSeconds] using hlast)] at hnext
    rw [Monitor.numbered_iff, Monitor.numbers_eq]
    simpa using hnext
  · exact h

/-- R171: the bins that are open close in the order of their numbers. -/
theorem Monitor.closeOpenBins_numbers (m : Monitor) : m.closeOpenBins.closed.map (·.number) <:+ m.numbers := by
  have hlast (ring : List Bin) : (appendClosed ring { m.current with truncated := true }).map (·.number) <:+
      ring.map (·.number) ++ [m.current.number] := by
    simpa using (appendClosed_suffix ring { m.current with truncated := true }).map (·.number)
  rw [m.numbers_eq]
  unfold Monitor.closeOpenBins
  cases m.earlier with
  | none => simpa using hlast m.closed
  | some b =>
    have hearlier := (appendClosed_suffix m.closed { b with truncated := true }).map (·.number)
    exact (hlast _).trans (List.suffix_append_self_iff.2 (by simpa using hearlier))

/-- R171: the next number is that of the bin that opens at the release. -/
theorem Monitor.Numbered.resetLine {m : Monitor} (h : m.Numbered) : m.resetLine.Numbered := by
  have hclosed := (Monitor.closeOpenBins_numbers _).trans (Monitor.commitAll_numbers false m.window m.emptied)
  have hnumbers : m.resetLine.numbers =
      (m.emptied.commitAll m.window false).1.closeOpenBins.closed.map (·.number) ++
        [nextBinNumber m.current.number] := by
    rw [Monitor.numbers_eq]
    exact congrArg (· ++ _) (List.append_nil _)
  rw [Monitor.numbered_iff, hnumbers]
  exact h.next.suffix (List.suffix_append_self_iff.2 hclosed)

/-! ## The seconds and the bins they belong to (R168) -/

namespace Bin.Lawful

variable {b : Bin}

theorem fresh (n : Nat) : (Bin.fresh n).Lawful := ⟨Nat.le_refl 0, Nat.le_refl 0, Nat.zero_le 900⟩

theorem truncate (h : b.Lawful) : Bin.Lawful { b with truncated := true } := ⟨h.ses, h.total, h.seconds⟩

/-- R168: a second counts once, as available time or as unavailable. -/
theorem commit (h : b.Lawful) (hroom : b.seconds < 900) (cls : SecondClass) (asUas : Bool) :
    (b.commit cls asUas).Lawful := by
  obtain ⟨hses, htotal, -⟩ := h
  constructor <;> cases cls <;> cases asUas <;> simp [Bin.commit] <;> omega

theorem commitAll (asUas : Bool) (ps : List PendingSecond) : ∀ {b : Bin}, b.Lawful →
    b.seconds + ps.length ≤ 900 → (b.commitAll asUas ps).Lawful := by
  induction ps with
  | nil => exact fun h _ => h
  | cons p ps ih =>
    intro b h hroom
    rw [List.length_cons] at hroom
    exact ih (h.commit (by omega) p.cls asUas) (by show b.seconds + 1 + ps.length ≤ 900; omega)

end Bin.Lawful

theorem appendClosed_lawful {ring : List Bin} {b : Bin} (h : ∀ x ∈ ring, x.Lawful) (hb : b.Lawful) :
    ∀ x ∈ appendClosed ring b, x.Lawful := by
  intro x hx
  have hmem := (appendClosed_suffix ring b).subset hx
  simp only [List.mem_append, List.mem_singleton] at hmem
  rcases hmem with hmem | rfl <;> [exact h x hmem; exact hb]

theorem appendClosed_length (ring : List Bin) (b : Bin) (h : ring.length ≤ 32) :
    (appendClosed ring b).length ≤ 32 := by
  rw [appendClosed_eq h]
  simp [newest]
  omega

/-- R168: the law of the monitor but for the length of the window, with the seconds that wait for their commitment
given as a list. -/
structure Monitor.Waits (m : Monitor) (ps : List PendingSecond) : Prop where
  closed  : ∀ b ∈ m.closed, b.Lawful
  ring    : m.closed.length ≤ 32
  current : m.current.Lawful
  earlier : ∀ b, m.earlier = some b → b.Lawful ∧ b.seconds < 900 ∧ b.number ≠ m.current.number
  waiting : ∃ old new : List PendingSecond, ps = old ++ new ∧
    (∀ x ∈ old, ∃ b, m.earlier = some b ∧ x.bin = b.number) ∧ (∀ x ∈ new, x.bin = m.current.number) ∧
    (∀ b, m.earlier = some b → b.seconds + old.length = 900 ∧ m.current.seconds = 0) ∧
    m.current.seconds + new.length = m.secondIndex
  index   : m.secondIndex < 900

theorem Monitor.lawful_iff (m : Monitor) : m.Lawful ↔ m.Waits m.window ∧ m.window.length < 30 :=
  ⟨fun ⟨h1, h2, h3, h4, h5, h6, h7⟩ => ⟨⟨h1, h2, h3, h4, h5, h6⟩, h7⟩,
    fun ⟨⟨h1, h2, h3, h4, h5, h6⟩, h7⟩ => ⟨h1, h2, h3, h4, h5, h6, h7⟩⟩

/-- The seconds that wait, split between the open bins. -/
theorem Monitor.Waits.split {m : Monitor} {ps : List PendingSecond} (h : m.Waits ps) :
    (m.earlier = none ∧ (∀ x ∈ ps, x.bin = m.current.number) ∧ m.current.seconds + ps.length = m.secondIndex) ∨
    ∃ b old new, m.earlier = some b ∧ ps = old ++ new ∧ old ≠ [] ∧ (∀ x ∈ old, x.bin = b.number) ∧
      (∀ x ∈ new, x.bin = m.current.number) ∧ b.seconds + old.length = 900 ∧ m.current.seconds = 0 ∧
      new.length = m.secondIndex := by
  obtain ⟨old, new, rfl, hold, hnew, hboth, hindex⟩ := h.waiting
  cases he : m.earlier with
  | none =>
    have hnil : old = [] := List.eq_nil_iff_forall_not_mem.2 fun x hx => by simpa [he] using hold x hx
    subst hnil
    exact .inl ⟨rfl, hnew, hindex⟩
  | some b =>
    obtain ⟨hlen, hzero⟩ := hboth b he
    obtain ⟨-, hshort, -⟩ := h.earlier b he
    refine .inr ⟨b, old, new, rfl, rfl, ?_, fun x hx => ?_, hnew, hlen, hzero, by omega⟩
    · rintro rfl
      simp at hlen
      omega
    · obtain ⟨c, hc, hx⟩ := hold x hx
      rwa [Option.some.inj (he.symm.trans hc)]

/-- Section 10.3: by the 900th second of a bin the bin before it has closed. -/
theorem Monitor.Waits.earlier_none {m : Monitor} {ps : List PendingSecond} (h : m.Waits ps) (hlen : ps.length < 30)
    (hi : m.secondIndex = 899) : m.earlier = none := by
  rcases h.split with ⟨he, -⟩ | ⟨b, old, new, -, rfl, -, -, -, -, -, hnew⟩
  · exact he
  · rw [List.length_append] at hlen
    omega

theorem nextBinNumber_ne (n : Nat) : n ≠ nextBinNumber n := by
  unfold nextBinNumber
  omega

/-- Section 10.3: the second that ends joins those that wait; after the last second of a bin the next bin opens. -/
theorem Monitor.Waits.roll {m : Monitor} (h : m.Waits m.window) (hlen : m.window.length < 30) (cls : SecondClass) :
    m.roll.Waits (m.window ++ [{ cls := cls, bin := m.current.number }]) := by
  have hindex := h.index
  by_cases hi : m.secondIndex = 899
  · obtain ⟨-, hbin, hseconds⟩ | ⟨b, -, -, hb, -⟩ := h.split
    · rw [Monitor.roll_last hi]
      refine ⟨h.closed, h.ring, .fresh _, ?_, ⟨_, [], (List.append_nil _).symm, ?_, nofun, ?_, rfl⟩,
        Nat.zero_lt_succ 899⟩
      · rintro b ⟨⟩
        exact ⟨h.current, by omega, nextBinNumber_ne _⟩
      · intro x hx
        refine ⟨_, rfl, ?_⟩
        rcases List.mem_append.1 hx with hx | hx <;> [exact hbin x hx; rw [List.mem_singleton.1 hx]]
      · rintro b ⟨⟩
        refine ⟨?_, rfl⟩
        rw [List.length_append, List.length_singleton]
        omega
    · simp [h.earlier_none hlen hi] at hb
  · rw [Monitor.roll_within (by omega)]
    obtain ⟨old, new, hwindow, hold, hnew, hboth, hseconds⟩ := h.waiting
    refine ⟨h.closed, h.ring, h.current, h.earlier, ⟨old, new ++ [_], by rw [hwindow, List.append_assoc], hold, ?_,
      hboth, ?_⟩, by show m.secondIndex + 1 < 900; omega⟩
    · intro x hx
      rcases List.mem_append.1 hx with hx | hx <;> [exact hnew x hx; rw [List.mem_singleton.1 hx]]
    · rw [List.length_append, List.length_singleton]
      show m.current.seconds + (new.length + 1) = m.secondIndex + 1
      omega

/-- R168: the law after the seconds that wait are committed: the earlier bin has closed. -/
theorem Monitor.Waits.commitAll {m : Monitor} {ps : List PendingSecond} (h : m.Waits ps) (asUas : Bool) :
    (m.emptied.commitAll ps asUas).1.Lawful := by
  have hroom := h.index
  rcases h.split with ⟨he, -, hlen⟩ | ⟨b, old, new, he, rfl, hne, hbin, -, hlen, hzero, hnew⟩
  · rw [Monitor.commitAll_alone (m := m.emptied) he]
    refine (Monitor.lawful_iff _).2 ⟨⟨h.closed, h.ring, h.current.commitAll asUas ps (by omega), ?_, ?_, h.index⟩, ?_⟩
    · intro b hb
      simp [Monitor.emptied, he] at hb
    · refine ⟨[], [], rfl, nofun, nofun, ?_, ?_⟩
      · intro b hb
        simp [Monitor.emptied, he] at hb
      · simpa [Monitor.emptied] using hlen
    · exact Nat.zero_lt_succ 29
  · obtain ⟨hb, -, -⟩ := h.earlier b he
    rw [Monitor.commitAll_both (m := m.emptied) he hne hbin hlen]
    refine (Monitor.lawful_iff _).2 ⟨⟨appendClosed_lawful h.closed (hb.commitAll asUas old (by omega)),
      appendClosed_length _ _ h.ring, h.current.commitAll asUas new (by omega), nofun, ?_, h.index⟩, ?_⟩
    · refine ⟨[], [], rfl, nofun, nofun, nofun, ?_⟩
      simpa [Monitor.emptied, hzero] using hnew
    · exact Nat.zero_lt_succ 29

/-- The law is about the bins, the window and the place of the second in its bin. -/
theorem Monitor.Lawful.keep {m n : Monitor} (h : m.Lawful) (hclosed : n.closed = m.closed)
    (hearlier : n.earlier = m.earlier) (hcurrent : n.current = m.current) (hwindow : n.window = m.window)
    (hindex : n.secondIndex = m.secondIndex) : n.Lawful := by
  obtain ⟨h1, h2, h3, h4, h5, h6, h7⟩ := h
  constructor <;> simpa only [hclosed, hearlier, hcurrent, hwindow, hindex]

/-- R166, R167: the second waits, where the run stays short of 30 seconds, or nothing does. -/
theorem Monitor.Waits.account {m : Monitor} {p : PendingSecond} {run : Nat} (h : m.Waits (m.window ++ [p]))
    (hrun : run ≤ 30) : (m.account p run).monitor.Lawful := by
  by_cases hext : m.ExtendsRun p
  · by_cases hshort : m.window = [] ∨ m.window.length + 1 < run
    · rw [Monitor.account_waits hext hshort]
      refine (Monitor.lawful_iff _).2 ⟨⟨h.closed, h.ring, h.current, h.earlier, h.waiting, h.index⟩, ?_⟩
      show (m.window ++ [p]).length < 30
      rw [List.length_append, List.length_singleton]
      rcases hshort with hnil | hshort <;> [simp [hnil]; omega]
    · obtain ⟨hw, hlen⟩ := not_or.1 hshort
      rw [Monitor.account_completes hext hw (Nat.not_lt.1 hlen) rfl]
      exact (h.commitAll _).keep rfl rfl rfl rfl rfl
  · rw [Monitor.account_commits hext rfl]
    exact h.commitAll _

/-! ## The end of a second, the RESET line, and a start (R166 to R168, R171) -/

theorem Monitor.start_lawful (n : Nat) {ring : List Bin} (h : ∀ b ∈ ring, b.Lawful) (hlen : ring.length ≤ 32) :
    (Monitor.start n ring).Lawful where
  closed := h
  ring := hlen
  current := .fresh n
  earlier := nofun
  waiting := ⟨[], [], rfl, nofun, nofun, nofun, rfl⟩
  index := Nat.zero_lt_succ 899
  window := Nat.zero_lt_succ 29

/-- R171: the ring after the open bins are closed into it. -/
theorem Monitor.Lawful.closeOpenBins {m : Monitor} (h : m.Lawful) :
    (∀ b ∈ m.closeOpenBins.closed, b.Lawful) ∧ m.closeOpenBins.closed.length ≤ 32 := by
  unfold Monitor.closeOpenBins
  cases he : m.earlier with
  | none => exact ⟨appendClosed_lawful h.closed h.current.truncate, appendClosed_length _ _ h.ring⟩
  | some b =>
    obtain ⟨hb, -⟩ := h.earlier b he
    exact ⟨appendClosed_lawful (appendClosed_lawful h.closed hb.truncate) h.current.truncate,
      appendClosed_length _ _ (appendClosed_length _ _ h.ring)⟩

theorem Monitor.Lawful.resetLine {m : Monitor} (h : m.Lawful) : m.resetLine.Lawful := by
  obtain ⟨hwaits, -⟩ := m.lawful_iff.1 h
  obtain ⟨hlawful, hlen⟩ := (hwaits.commitAll false).closeOpenBins
  exact Monitor.start_lawful _ hlawful hlen

theorem State.endSecond_monitor (s : State) : s.endSecond.monitor =
    (s.monitor.roll.account s.secondInProgress s.settings.unavailRun).monitor.beginSecond s.isDegraded := rfl

theorem State.endSecond_lawful {s : State} (h : s.monitor.Lawful) (hrun : s.settings.unavailRun ≤ 30) :
    s.endSecond.monitor.Lawful := by
  obtain ⟨hwaits, hlen⟩ := s.monitor.lawful_iff.1 h
  have hroll := hwaits.roll hlen (classifySecond s.monitor s.settings.sesPercent)
  rw [← Monitor.roll_window] at hroll
  rw [s.endSecond_monitor]
  exact (hroll.account hrun).keep rfl rfl rfl rfl rfl

theorem State.endSecond_numbered {s : State} (h : s.monitor.Lawful) (hn : s.monitor.Numbered) :
    s.endSecond.monitor.Numbered := by
  obtain ⟨hwaits, hlen⟩ := s.monitor.lawful_iff.1 h
  rw [s.endSecond_monitor]
  exact consecutive.suffix (hn.roll (hwaits.earlier_none hlen)) (Monitor.account_numbers _ _ _)

end Sys2Proof.Machine
end

section
/-! What a step makes of the books of the Performance Monitor: it keeps them, ends a second, or resets them (R164, R168,
R171). -/

namespace Sys2Proof.Machine

/-! ## The books -/

/-- R168: the number of a bin and its committed counts. -/
def Bin.committed (b : Bin) : Nat × Nat × Nat × Nat × Nat := (b.number, b.seconds, b.es, b.ses, b.uas)

/-- R166 to R168: the books of the monitor: its bins with their committed counts, the pending window, and the place of
the second in its bin. The current counts and the second in progress are none of them. -/
def Monitor.books (m : Monitor) : List Bin × Option Bin × List PendingSecond × Nat × Nat × Nat × Nat × Nat × Nat :=
  (m.closed, m.earlier, m.window, m.secondIndex, m.current.committed)

theorem Monitor.Lawful.same {m n : Monitor} (h : m.Lawful) (hn : n.books = m.books) : n.Lawful := by
  simp only [Monitor.books, Bin.committed, Prod.mk.injEq] at hn
  obtain ⟨hclosed, hearlier, hwindow, hindex, hnumber, hseconds, hes, hses, huas⟩ := hn
  obtain ⟨h1, h2, ⟨hle, htotal, hroom⟩, h4, h5, h6, h7⟩ := h
  refine ⟨?_, ?_, ⟨?_, ?_, ?_⟩, ?_, ?_, ?_, ?_⟩ <;>
    simpa only [hclosed, hearlier, hwindow, hindex, hnumber, hseconds, hes, hses, huas]

theorem Monitor.Numbered.same {m n : Monitor} (h : m.Numbered) (hn : n.books = m.books) : n.Numbered := by
  simp only [Monitor.books, Bin.committed, Prod.mk.injEq] at hn
  obtain ⟨hclosed, hearlier, -, -, hnumber, -⟩ := hn
  rw [Monitor.numbered_iff, Monitor.numbers_eq] at h ⊢
  rwa [hclosed, hearlier, hnumber]

/-- R170: unavail_run within its range. -/
def Settings.RunFits (x : Settings) : Prop := x.unavailRun ≤ 30

theorem Settings.Lawful.runFits {x : Settings} (h : x.Lawful) : x.RunFits := by
  obtain ⟨v, hv, -, hhi, -⟩ := h.inRange 35 (by decide) (by decide)
  cases hv
  unfold Settings.RunFits
  omega

/-- The operation leaves the books and the RESET line alone. -/
structure State.KeepsBooks (s t : State) : Prop where
  line     : t.resetLine = s.resetLine
  settings : s.settings.RunFits → t.settings.RunFits
  books    : t.monitor.books = s.monitor.books

namespace State.KeepsBooks

variable {s t u : State}

theorem refl (s : State) : s.KeepsBooks s := ⟨rfl, id, rfl⟩

theorem trans (h : s.KeepsBooks t) (h' : t.KeepsBooks u) : s.KeepsBooks u :=
  ⟨h'.line.trans h.line, h'.settings ∘ h.settings, h'.books.trans h.books⟩

/-- An operation that also leaves the settings alone. -/
theorem apart (hb : t.monitor.books = s.monitor.books) (hl : t.resetLine = s.resetLine := by simp)
    (hs : t.settings = s.settings := by simp) : s.KeepsBooks t :=
  ⟨hl, hs ▸ id, hb⟩

/-- What an operation keeps after changes outside the books. -/
theorem since (h : t.KeepsBooks u) (hb : t.monitor.books = s.monitor.books) (hl : t.resetLine = s.resetLine := by rfl)
    (hs : t.settings = s.settings := by rfl) : s.KeepsBooks u :=
  trans ⟨hl, hs ▸ id, hb⟩ h

theorem unlessHeld {f : State → State} (h : s.KeepsBooks (f s)) : s.KeepsBooks (s.unlessHeld f) := by
  unfold State.unlessHeld
  split <;> [exact refl s; exact h]

theorem answer (m : Message) {f : State → Served} (h : s.dropRequest.KeepsBooks (f s.dropRequest).state) :
    s.KeepsBooks (s.answer m f) :=
  trans (t := s.dropRequest) (apart rfl) (trans h (apart rfl rfl rfl))

theorem take {kind : Byte} {len : Nat} {f : List Byte → State → Served}
    (h : ∀ p t, State.KeepsBooks t (f p t).state) : s.KeepsBooks (s.take kind len f) := by
  unfold State.take
  split
  · exact refl s
  · split
    · refine answer _ ?_
      split <;> [exact h _ _; exact refl _]
    · exact refl s

end State.KeepsBooks

/-! ## Entries (R16) -/

theorem State.openFade_books (s : State) : s.openFade.monitor.books = s.monitor.books := rfl

theorem State.changeR_books (s : State) (r : Profile) : (s.changeR r).monitor.books = s.monitor.books := rfl

theorem State.trackFade_books (s : State) (v : EntryValues) : (s.trackFade v).monitor.books = s.monitor.books := by
  unfold State.trackFade State.fadeClearEntry
  dsimp only
  (repeat' split) <;> simp [State.openFade_books]

theorem State.signal_books (s : State) (good : Option Metrics) : (s.signal good).monitor.books = s.monitor.books := by
  have hfollow (good : Option Metrics) (t : State) : (t.followGood good).monitor.books = t.monitor.books := by
    unfold State.followGood State.followHeader
    (repeat' split) <;> [rfl; exact State.changeR_books _ _; rfl]
  simp [State.signal, hfollow]

theorem State.linkLoss_books (s : State) : s.linkLoss.monitor.books = s.monitor.books := by
  rw [s.linkLoss_losesLink.monitor]
  rfl

theorem State.linkEntry_books (s : State) (good : Option Metrics) :
    (s.linkEntry good).monitor.books = s.monitor.books := by
  unfold State.linkEntry State.watchLink
  dsimp only
  (repeat' split) <;> simp [State.linkLoss_books]

theorem State.monitorEntry_books (s : State) (v : EntryValues) :
    (s.monitorEntry v).monitor.books = s.monitor.books := by
  have hcount : (s.monitorEntry v).monitor.current.committed = s.monitor.current.committed := by
    show (if s.link.state = .run then s.monitor.current.countEntry s.hop.r v.history.s
      else s.monitor.current).committed = _
    split <;> rfl
  exact congrArg (s.monitor.closed, s.monitor.earlier, s.monitor.window, s.monitor.secondIndex, ·) hcount

theorem keepsBooks_entryLaw (s : State) : EntryLaw s.KeepsBooks fun _ => True where
  outer _ _ _ _ h := h.trans (.apart rfl)
  clearFresh _ h := h.trans (.apart rfl)
  estimate _ _ _ h := h.trans (.apart (by simp))
  trackFade t v h := h.trans (.apart (t.trackFade_books v))
  runDecision _ _ h := h.trans (.apart (by simp))
  signal t good h := h.trans (.apart (t.signal_books good) (by simp [State.signal]) (by simp [State.signal]))
  powerReceive _ _ h := h.trans (.apart (by simp))
  powerTransmit _ _ h := h.trans (.apart (by simp))
  monitorEntry t v h := h.trans (.apart (t.monitorEntry_books v))
  takeFarMask _ _ h := h.trans (.apart (by simp))
  swapAtEntry _ h := h.trans (.apart (by simp))
  linkEntry t good h := h.trans (.apart (t.linkEntry_books good))

theorem State.handleEntry_keepsBooks (s : State) (e : Entry) : s.KeepsBooks (s.handleEntry e) :=
  (keepsBooks_entryLaw s).handleEntry trivial s (.refl s)

theorem State.deliver_keepsBooks (s : State) (m : Metrics) (resumed valid : Bool) :
    s.KeepsBooks (s.deliver m resumed valid) :=
  (keepsBooks_entryLaw s).deliver m resumed valid trivial s (.refl s)

theorem State.deliverHeld_keepsBooks (s : State) (first : FrameNo) (k : Nat) :
    s.KeepsBooks (s.deliverHeld first k) :=
  (keepsBooks_entryLaw s).deliverHeld (fun _ => trivial) k s first (.refl s)

/-! ## The records of the modem and the timers of the link (R152 to R158, R142) -/

theorem State.lock_keepsBooks (s : State) (m : Metrics) : s.KeepsBooks (s.lock m) :=
  (State.deliver_keepsBooks _ _ _ _).since rfl

theorem State.enterResync_keepsBooks (s : State) : s.KeepsBooks s.enterResync := .apart rfl

theorem State.enterSearch_keepsBooks (s : State) : s.KeepsBooks s.enterSearch := by
  have hsearch (t : State) : t.KeepsBooks t.searchReached := by
    unfold State.searchReached
    split <;> [exact .apart t.linkLoss_books; exact .apart rfl; exact .refl t; exact .refl t]
  rw [s.enterSearch_eq]
  exact (hsearch _).since rfl

theorem State.searchRecord_keepsBooks (s : State) (good : Bool) (m : Metrics) :
    s.KeepsBooks (s.searchRecord good m) := by
  unfold State.searchRecord
  (repeat' split) <;> [exact s.lock_keepsBooks m; exact .apart rfl; exact .apart rfl]

theorem State.lockedGood_keepsBooks (s : State) (m : Metrics) : s.KeepsBooks (s.lockedGood m) := by
  unfold State.lockedGood
  dsimp only
  split
  · exact ((State.deliverHeld_keepsBooks _ _ _).trans (State.deliver_keepsBooks _ _ _ _)).since rfl
  · split <;> exact .apart rfl

theorem State.lockedBad_keepsBooks (s : State) : s.KeepsBooks s.lockedBad := by
  unfold State.lockedBad
  split
  · exact (State.handleEntry_keepsBooks _ _).since rfl
  · exact s.enterResync_keepsBooks

theorem State.resyncRecord_keepsBooks (s : State) (good : Bool) (m : Metrics) :
    s.KeepsBooks (s.resyncRecord good m) := by
  unfold State.resyncRecord
  dsimp only
  (repeat' split)
  · exact (State.lock_keepsBooks _ m).since rfl
  · exact (State.enterSearch_keepsBooks _).since rfl
  · exact .apart rfl

theorem State.takeMetrics_keepsBooks (s : State) (bs : List Byte) : s.KeepsBooks (s.takeMetrics bs) := by
  have hload : s.KeepsBooks s.loadSilence := .apart rfl
  unfold State.takeMetrics
  dsimp only
  split
  · exact .refl s
  · exact hload.trans (State.searchRecord_keepsBooks _ _ _)
  · split <;> [exact hload.trans (State.lockedGood_keepsBooks _ _); exact hload.trans (State.lockedBad_keepsBooks _)]
  · exact hload.trans (State.resyncRecord_keepsBooks _ _ _)

theorem State.expireSilence_keepsBooks (s : State) : s.KeepsBooks s.expireSilence := by
  unfold State.expireSilence
  split <;> [exact .refl s; exact .apart rfl; exact .apart rfl;
    exact (State.enterSearch_keepsBooks _).since rfl]

/-! ## Slots, the host line and the requests (R107, R161, R172, R173) -/

theorem State.takeSlot_keepsBooks (s : State) (bs : List Byte) (l : Bool) : s.KeepsBooks (s.takeSlot bs l) := by
  unfold State.takeSlot
  split <;> [exact .apart (by simp); exact .apart rfl; exact .refl s]

theorem State.finishDescriptor_keepsBooks (s : State) (l : Bool) : s.KeepsBooks (s.finishDescriptor l) := by
  unfold State.finishDescriptor
  (repeat' split) <;> [exact .refl s; exact .apart rfl; exact .apart (by simp)]

theorem State.receiveAll_keepsBooks (bs : List Byte) : ∀ s : State, s.KeepsBooks (s.receiveAll bs) := by
  induction bs with
  | nil => exact .refl
  | cons b bs ih =>
    refine fun s => .trans ?_ (ih (s.receive b))
    unfold State.receive State.complete
    dsimp only
    (repeat' split) <;> exact .apart rfl

theorem State.restartNow_keepsBooks (s : State) : s.KeepsBooks s.restartNow := .apart rfl rfl rfl

theorem State.stopLink_keepsBooks (s : State) : s.KeepsBooks s.stopLink := by
  unfold State.stopLink
  split <;> [exact .apart (by simp; rfl); exact .apart rfl]

theorem Settings.put_unavailRun (x : Settings) (id : Nat) (v : Int) (h : id ≠ 35) :
    (x.put id v).unavailRun = x.unavailRun := by
  unfold Settings.put
  split <;> simp_all

/-- R170, R176: a SET brings unavail_run into its range. -/
theorem State.setValue_runFits (s : State) (id : Nat) (v : Int) (h : s.settings.RunFits) :
    (s.setValue id v).2.settings.RunFits := by
  by_cases hid : id = 35
  · subst hid
    obtain ⟨-, hhi⟩ := clampInt_range 2 30 v (by decide)
    show (clampInt 2 30 v).toNat ≤ 30
    omega
  · have hput (w : Int) : (s.settings.put id w).RunFits := by
      unfold Settings.RunFits
      rwa [Settings.put_unavailRun _ _ _ hid]
    unfold State.setValue
    dsimp only
    (repeat' split) <;> [exact h; exact hput _; exact h; exact hput _; exact h]

section
variable (p : List Byte) (s : State)

theorem serveSetSetting_keepsBooks : s.KeepsBooks (serveSetSetting p s).state :=
  ⟨by simp [serveSetSetting], State.setValue_runFits _ _ _, by simp [serveSetSetting]⟩

theorem serveLinkStart_keepsBooks : s.KeepsBooks (serveLinkStart s).state := by
  unfold serveLinkStart
  split <;> [exact .apart rfl rfl rfl; exact .refl s]

theorem serveLinkStop_keepsBooks : s.KeepsBooks (serveLinkStop s).state := by
  unfold serveLinkStop
  split <;> [exact .refl s; exact s.stopLink_keepsBooks]

theorem serveWriteProfile_keepsBooks : s.KeepsBooks (serveWriteProfile p s).state := by
  unfold serveWriteProfile
  (repeat' split) <;> exact .apart rfl rfl rfl

theorem serveSwapTable_keepsBooks : s.KeepsBooks (serveSwapTable s).state := by
  unfold serveSwapTable
  (repeat' split) <;> exact .apart rfl rfl rfl

theorem serveForce_keepsBooks : s.KeepsBooks (serveForce p s).state := by
  unfold serveForce
  (repeat' split) <;> exact .apart rfl rfl rfl

theorem servePilotNow_keepsBooks : s.KeepsBooks (servePilotNow s).state := by
  unfold servePilotNow
  split <;> exact .apart rfl rfl rfl

theorem serveReadFades_keepsBooks : s.KeepsBooks (serveReadFades p s).state := by
  unfold serveReadFades
  dsimp only
  split <;> exact .apart rfl rfl rfl

theorem serveWatch_keepsBooks : s.KeepsBooks (serveWatch p s).state := by
  unfold serveWatch
  dsimp only
  (repeat' split) <;> exact .apart rfl rfl rfl

theorem serveGetSetting_state : (serveGetSetting p s).state = s := by
  unfold serveGetSetting; split <;> rfl

theorem serveReadProfile_state : (serveReadProfile p s).state = s := by
  unfold serveReadProfile; split <;> rfl

theorem serveReadStatus_state : (serveReadStatus p s).state = s := by
  unfold serveReadStatus; dsimp only; split <;> rfl

theorem serveReadHistory_state : (serveReadHistory p s).state = s := by
  unfold serveReadHistory; dsimp only; split <;> rfl

theorem serveReadBin_state : (serveReadBin p s).state = s := by
  unfold serveReadBin; dsimp only; split <;> rfl

end

/-- A request that reads. -/
theorem State.KeepsBooks.takeReading {s : State} {kind : Byte} {len : Nat} {f : List Byte → State → Served}
    (h : ∀ p t, (f p t).state = t) : s.KeepsBooks (s.unlessHeld (·.take kind len f)) :=
  .unlessHeld (.take fun p t => (h p t).symm ▸ .refl t)

/-! ## Every command and every step -/

/-- What a step makes of the books: it keeps them, ends a second of a running controller, or resets the monitor. -/
inductive State.BooksStep (s t : State) : Prop where
  | keeps (h : s.KeepsBooks t)
  | second (u : State) (h : s.KeepsBooks u) (hu : u.Running) (ht : t = u.endSecond)
  | asserted (h : t.monitor = s.monitor.resetLine)
  | released (hs : s.resetLine.asserted = true) (h : t.monitor = s.monitor.release)
  | powered (h : t.monitor = .start 0 [])

/-- A millisecond, up to the second in progress. -/
theorem State.tickTimers_keepsBooks (s : State) : s.KeepsBooks s.tickAcq.tickSilence.tickReceiver := by
  have hacq : s.KeepsBooks s.tickAcq := by
    unfold State.tickAcq
    (repeat' split) <;> exact .apart rfl
  have hsilence (s : State) : s.KeepsBooks s.tickSilence := by
    unfold State.tickSilence
    (repeat' split) <;> [exact .refl s; exact s.expireSilence_keepsBooks; exact .apart rfl]
  have hreceiver (s : State) : s.KeepsBooks s.tickReceiver := by
    unfold State.tickReceiver
    (repeat' split) <;> exact .apart rfl rfl rfl
  exact (hacq.trans (hsilence _)).trans (hreceiver _)

theorem State.tick_booksStep (s : State) : s.BooksStep s.tick := by
  by_cases hs : s.resetLine.asserted = true
  · rw [State.tick, State.unlessHeld_held hs]
    exact .keeps (.refl s)
  · have hrun : s.Running := eq_false_of_ne_true hs
    have htimers := s.tickTimers_keepsBooks
    rw [State.tick, State.unlessHeld_running hrun]
    unfold State.tickSecond
    split
    · exact .second _ htimers ((congrArg ResetLine.asserted htimers.line).trans hrun) rfl
    · exact .keeps (htimers.trans (.apart rfl))

/-- The four rows that end a second or reset the monitor, and all the others. -/
theorem exec_booksStep (c : Instr) (s t : State) (he : exec c s = .next t) : s.BooksStep t := by
  cases c <;> cases he
  case powerOn => exact .powered (by split <;> rfl)
  case resetLineAssert =>
    unfold State.unlessHeld
    split <;> [exact .keeps (.refl s); exact .asserted rfl]
  case resetLineRelease =>
    split
    · next hs => exact .released hs rfl
    · exact .keeps (.refl s)
  case secondEnd =>
    unfold State.unlessHeld
    split
    · exact .keeps (.refl s)
    · next hs => exact .second s (.refl s) (eq_false_of_ne_true hs) rfl
  all_goals refine .keeps ?_
  case hostMessage bs => exact .unlessHeld (s.receiveAll_keepsBooks bs)
  case interByteTimeout => exact .unlessHeld (.apart rfl)
  case messageSent =>
    refine .unlessHeld ?_
    split <;> [exact s.restartNow_keepsBooks; exact .apart rfl]
  case unknownKind =>
    refine .unlessHeld ?_
    (repeat' split) <;> [exact .refl s; exact .answer _ (.refl _); exact .refl s]
  case getInfo | readEvents => exact .takeReading fun _ _ => rfl
  case eventEnable | clearEvents | restart => exact .unlessHeld (.take fun _ _ => .apart rfl rfl rfl)
  case setSetting => exact .unlessHeld (.take serveSetSetting_keepsBooks)
  case getSetting => exact .takeReading serveGetSetting_state
  case writeProfile => exact .unlessHeld (.take serveWriteProfile_keepsBooks)
  case readProfile => exact .takeReading serveReadProfile_state
  case swapTable => exact .unlessHeld (.take fun _ => serveSwapTable_keepsBooks)
  case linkStart => exact .unlessHeld (.take fun _ => serveLinkStart_keepsBooks)
  case linkStop => exact .unlessHeld (.take fun _ => serveLinkStop_keepsBooks)
  case force => exact .unlessHeld (.take serveForce_keepsBooks)
  case pilotNow => exact .unlessHeld (.take fun _ => servePilotNow_keepsBooks)
  case readStatus => exact .takeReading serveReadStatus_state
  case readHistory => exact .takeReading serveReadHistory_state
  case readFades => exact .unlessHeld (.take serveReadFades_keepsBooks)
  case readBin => exact .takeReading serveReadBin_state
  case watch => exact .unlessHeld (.take serveWatch_keepsBooks)
  case restartTakesEffect =>
    refine .unlessHeld ?_
    split <;> [exact s.restartNow_keepsBooks; exact .refl s]
  case rxMetrics => exact .unlessHeld (s.takeMetrics_keepsBooks _)
  case unknownRecord => exact .refl s
  case watchReport | swapTimeout | switchMissed | backoffExpiry | pilotTimerExpiry | acqTimeout =>
    refine .unlessHeld ?_
    split <;> exact .apart rfl rfl rfl
  case answerTimerExpiry =>
    refine .unlessHeld ?_
    split <;> [exact .apart (by simp); exact .refl s]
  case silenceTimerExpiry =>
    refine .unlessHeld ?_
    split <;> [exact s.expireSilence_keepsBooks; exact .refl s]
  case txSlot => exact .unlessHeld (s.takeSlot_keepsBooks _ _)
  case descriptorSent => exact .unlessHeld (s.finishDescriptor_keepsBooks _)

theorem step_booksStep (s t : State) (he : step s = .next t) : s.BooksStep t := by
  unfold step at he
  split at he
  · cases he
    exact s.tick_booksStep
  · next c rest _ =>
    have hqueue : s.KeepsBooks { s with pending := rest } := .apart rfl
    cases exec_booksStep c _ t he with
    | keeps h => exact .keeps (hqueue.trans h)
    | second u h hu ht => exact .second u (hqueue.trans h) hu ht
    | asserted h => exact .asserted h
    | released hs h => exact .released hs h
    | powered h => exact .powered h

/-! ## The law (R166 to R168, R171) -/

theorem State.BooksStep.lawful {s t : State} (h : s.BooksStep t) (hset : s.settings.RunFits) (hs : s.monitor.Lawful) :
    t.monitor.Lawful := by
  cases h with
  | keeps h => exact hs.same h.books
  | second u h hu ht => exact ht ▸ State.endSecond_lawful (hs.same h.books) (h.settings hset)
  | asserted h => exact h ▸ hs.resetLine
  | released _ h => exact h ▸ Monitor.start_lawful _ hs.closed hs.ring
  | powered h => exact h ▸ Monitor.start_lawful 0 nofun (Nat.zero_le 32)

/-- R171: while the line is asserted the monitor stands as the assertion left it. -/
theorem State.BooksStep.held {s t : State} (h : s.BooksStep t) (hs : s.HeldMonitor) : t.HeldMonitor := by
  intro ht
  cases h with
  | keeps h =>
    have hearlier : t.monitor.earlier = s.monitor.earlier := congrArg (·.2.1) h.books
    exact hearlier.trans (hs (h.line ▸ ht))
  | second u _ hu h =>
    subst h
    exact absurd ht (ne_true_of_eq_false hu)
  | asserted h => rw [h]; rfl
  | released _ h => rw [h]; rfl
  | powered h => rw [h]; rfl

theorem State.BooksStep.numbered {s t : State} (h : s.BooksStep t) (hs : s.monitor.Lawful) (hheld : s.HeldMonitor)
    (hn : s.monitor.Numbered) : t.monitor.Numbered := by
  cases h with
  | keeps h => exact hn.same h.books
  | second u h _ ht => exact ht ▸ State.endSecond_numbered (hs.same h.books) (hn.same h.books)
  | asserted h => exact h ▸ hn.resetLine
  | released hasserted h =>
    rw [h, Monitor.numbered_iff, Monitor.numbers_eq]
    rw [Monitor.numbered_iff, Monitor.numbers_eq, hheld hasserted] at hn
    exact hn
  | powered h => rw [h]; trivial

/-- Settles O59, by what a step can make of the books. -/
theorem monitorLawIsKept : Obligations.MonitorLawIsKept := by
  unfold Obligations.MonitorLawIsKept
  intro s t hset hs he
  have hstep := step_booksStep s t he
  exact ⟨hstep.lawful hset.runFits hs, fun hheld => ⟨hstep.held hheld, hstep.numbered hs hheld⟩⟩

end Sys2Proof.Machine
end

section
/-! The law of the Host Link Unit: ATTN, the flags of a held controller, and the bounds of the queues, kept by every
step (R147, R151, R173, R174, R178). -/

namespace Sys2Proof.Machine

/-! ## The flags and ATTN (R177, R178) -/

/-- R177: the flags, in the order of their numbers. -/
def EventFlag.all : List EventFlag :=
  [.linkUp, .linkLoss, .acqTimeout, .rxSwitch, .txSwitch, .handshakeLost, .switchMissed, .rxUnexpected, .fadeStart,
   .fadeEnd, .longFade, .starved, .resync, .pilotOverdue, .txlimChange, .tableSwapped, .swapTimeout, .hostOverrun,
   .availabilityChange, .binClosed, .fadeLogDrop, .watchDropped]

theorem EventFlag.all_num (f : EventFlag) : EventFlag.all[f.num]? = some f := by cases f <;> rfl

/-- R177: no two flags share a number. -/
theorem EventFlag.num_inj {f g : EventFlag} : f.num = g.num ↔ f = g :=
  ⟨fun h => Option.some.inj (f.all_num.symm.trans (h ▸ g.all_num)), congrArg EventFlag.num⟩

/-- R177: the flags are numbered from 0 to 21 without a gap. -/
theorem EventFlag.exists_num {i : Nat} (hi : i < 22) : ∃ f : EventFlag, f.num = i :=
  have hnums : ∀ i : Fin 22, ∃ f ∈ EventFlag.all, f.num = i.val := by decide
  (hnums ⟨i, hi⟩).imp fun _ h => h.2

/-- R178: ATTN is driven by the flags both raised and enabled. -/
theorem attnLevel_iff (raised enabled : BitVec 22) :
    attnLevel raised enabled = true ↔ ∃ f : EventFlag, raised.getLsbD f.num ∧ enabled.getLsbD f.num := by
  unfold attnLevel
  rw [bne_iff_ne]
  constructor
  · intro hne
    by_contra hnone
    refine hne (BitVec.eq_of_getLsbD_eq fun i hi => ?_)
    obtain ⟨f, rfl⟩ := EventFlag.exists_num hi
    by_contra hbit
    exact hnone ⟨f, by simpa using hbit⟩
  · rintro ⟨f, hr, he⟩ hzero
    have hbit := congrArg (·.getLsbD f.num) hzero
    simp [hr, he] at hbit

/-! ## The part of the law that holds of a held controller too (R173, R174, R178) -/

/-- ATTN follows the flags, and the two queues are within their bounds. -/
structure HostLink.Sound (h : HostLink) : Prop where
  attn   : h.attn = true ↔ ∃ f : EventFlag, h.raised.getLsbD f.num ∧ h.enabled.getLsbD f.num
  input  : h.inBuf.length ≤ 2
  output : h.outQueue.length ≤ 8

theorem HostLink.initial_sound (rateCode : Nat) : (HostLink.initial rateCode).Sound :=
  ⟨by simp [HostLink.initial], Nat.zero_le _, Nat.zero_le _⟩

/-- R174: a notice takes no place above the eighth. -/
theorem HostLink.notice_output (h : HostLink) (m : Message) (hout : h.outQueue.length ≤ 8) :
    (h.notice m).outQueue.length ≤ 8 := by
  unfold HostLink.notice HostLink.freePlaces Config.outQueueCapacity
  split
  · rw [List.length_append, List.length_singleton]
    omega
  · exact hout

theorem HostMove.sound {a b : HostLink} (h : HostMove a b) : a.Sound → b.Sound := by
  induction h with
  | refl => exact id
  | trans _ _ h1 h2 => exact h2 ∘ h1
  | flags h raised enabled => exact fun hs => ⟨attnLevel_iff raised enabled, hs.input, hs.output⟩
  | notice h m => exact fun hs => ⟨by simpa using hs.attn, by simpa using hs.input, h.notice_output m hs.output⟩
  | watch | receiver | restarting => exact fun hs => ⟨hs.attn, hs.input, hs.output⟩
  | accept h m hroom => exact fun hs => ⟨hs.attn, by simpa using hroom, hs.output⟩
  | taken h => exact fun hs => ⟨hs.attn, (List.drop_sublist 1 _).length_le.trans hs.input, hs.output⟩
  | sent h => exact fun hs => ⟨hs.attn, hs.input, (List.drop_sublist 1 _).length_le.trans hs.output⟩
  | started h m => exact fun hs => ⟨hs.attn, hs.input, Nat.le_add_left 1 7⟩

/-! ## What each operation makes of the Host Link Unit -/

theorem HostMove.thenRaise {a : HostLink} {s : State} (h : HostMove a s.host) (f : EventFlag) :
    HostMove a (s.raise f).host := h.trans (.raise _ f)

theorem HostMove.thenRaiseIf {a : HostLink} {s : State} (h : HostMove a s.host) (c : Bool) (f : EventFlag) :
    HostMove a (s.raiseIf c f).host := h.trans (.raiseIf s c f)

theorem HostMove.thenWatchSwitch {a : HostLink} {s : State} (h : HostMove a s.host) (t : WatchTrigger) :
    HostMove a (s.watchSwitch t).host := h.trans (.watch _ _)

section
variable (s : State)

theorem State.testLongFade_hostMove : HostMove s.host s.testLongFade.host := by
  unfold State.testLongFade
  exact .thenRaiseIf (.refl _) _ _

theorem State.openFade_hostMove : HostMove s.host s.openFade.host := by
  unfold State.openFade
  refine .trans ?_ (State.testLongFade_hostMove _)
  exact .thenRaise (.thenRaiseIf (.refl _) _ _) _

theorem State.recoverFade_hostMove (o : OpenFade) : HostMove s.host (s.recoverFade o).host := by
  unfold State.recoverFade
  exact .thenRaise (.thenRaiseIf (.refl _) _ _) _

theorem State.trackFade_hostMove (v : EntryValues) : HostMove s.host (s.trackFade v).host := by
  have hclear (t : State) (x : FadeInput) : HostMove t.host (t.fadeClearEntry x).host := by
    unfold State.fadeClearEntry
    dsimp only
    (repeat' split) <;> [exact State.openFade_hostMove { t with fade := t.fade.extendEntryRun x }; exact .refl _;
      exact .refl _]
  have hopen (t : State) (o : OpenFade) (x : FadeInput) : HostMove t.host (t.fadeOpenEntry o x).host := by
    have htest (f : FadeTracker) := State.testLongFade_hostMove { t with fade := f }
    by_cases hd : depth t.settings.clearSky x.s ≤ t.settings.fadeExit
    · by_cases hp : t.settings.fadePersist ≤ t.fade.exitLen + 1
      · exact t.fadeOpenEntry_recovers o x hd hp ▸ (htest _).trans (State.recoverFade_hostMove _ o)
      · exact t.fadeOpenEntry_extends o x hd (by omega) ▸ htest (t.fade.extendExitRun x)
    · exact t.fadeOpenEntry_deepens o x hd ▸ htest (t.fade.deepen o x)
  unfold State.trackFade
  (repeat' split) <;> [exact hclear s.passClose _; exact hopen s.passClose _ _; exact .refl _]

theorem State.expireAnswerTimer_hostMove : HostMove s.host s.expireAnswerTimer.host := by
  unfold State.expireAnswerTimer
  dsimp only
  split <;> [exact .refl _; exact .raise _ _]

theorem State.advanceLaneTimer_hostMove : HostMove s.host s.advanceLaneTimer.host := by
  unfold State.advanceLaneTimer
  dsimp only
  (repeat' split) <;> [exact .refl _; exact .refl _; exact s.expireAnswerTimer_hostMove; exact .refl _;
    exact .raise _ _; exact .refl _; exact .refl _; exact .refl _]

theorem State.followGood_hostMove (good : Option Metrics) : HostMove s.host (s.followGood good).host := by
  have hchange (t : State) (r : Profile) : HostMove t.host (t.changeR r).host := by
    unfold State.changeR
    exact .thenWatchSwitch (.thenRaiseIf (.thenRaise (.refl _) _) _ _) _
  unfold State.followGood State.followHeader
  (repeat' split) <;> [exact .refl _; exact hchange _ _; exact .refl _]

theorem State.signal_hostMove (good : Option Metrics) : HostMove s.host (s.signal good).host := by
  have hadvance (t : State) : HostMove t.host t.advanceInRun.host := by
    unfold State.advanceInRun
    split <;> [exact t.advanceLaneTimer_hostMove; exact .refl _; exact .refl _; exact .refl _]
  have hupdate (good : Option Metrics) (t : State) : (t.updateFar good).host = t.host := by simp
  have hexamine (good : Option Metrics) (t : State) : (t.examineGood good).host = t.host := by simp
  have hanswer (good : Option Metrics) (t : State) : (t.answerGood good).host = t.host := by simp
  unfold State.signal
  rw [hanswer]
  refine .trans ?_ (hadvance _)
  rw [hexamine]
  exact hupdate _ s ▸ State.followGood_hostMove _ _

theorem State.trySwap_hostMove : HostMove s.host s.trySwap.host := by
  unfold State.trySwap
  split <;> [exact .raise _ _; exact .refl _]

theorem State.swapAtEntry_hostMove : HostMove s.host s.swapAtEntry.host := by
  unfold State.swapAtEntry
  (repeat' split) <;> [exact .refl _; exact .raise _ _; exact .raise _ _; exact .refl _]

theorem State.fadeLinkEvent_hostMove (why : EndedBy) : HostMove s.host (s.fadeLinkEvent why).host := by
  unfold State.fadeLinkEvent
  exact .thenRaiseIf (.thenRaiseIf (.refl _) _ _) _ _

theorem State.linkLoss_hostMove : HostMove s.host s.linkLoss.host := by
  unfold State.linkLoss
  refine .trans ?_ (State.fadeLinkEvent_hostMove _ _)
  exact .thenRaise (s := s.enterSync) (.refl _) _

theorem State.linkEntry_hostMove (good : Option Metrics) : HostMove s.host (s.linkEntry good).host := by
  unfold State.linkEntry State.watchLink
  dsimp only
  (repeat' split) <;> [exact .refl _; exact .refl _; exact .raise _ _; exact .raise _ _; exact .refl _; exact .refl _;
    exact State.linkLoss_hostMove _; exact .refl _; exact .refl _; exact .refl _; exact .refl _]

theorem State.enterResync_hostMove : HostMove s.host s.enterResync.host := by
  unfold State.enterResync State.starve
  exact .thenRaiseIf (.thenRaise (.refl _) _) _ _

theorem State.searchReached_hostMove : HostMove s.host s.searchReached.host := by
  unfold State.searchReached
  split <;> [exact s.linkLoss_hostMove; exact .refl _; exact .refl _; exact .refl _]

theorem State.stopLink_hostMove : HostMove s.host s.stopLink.host := by
  unfold State.stopLink
  split
  · exact State.fadeLinkEvent_hostMove { s.stopCommon with hop := _, decision := _ } _
  · exact .refl _

theorem State.slotSwitches_hostMove : HostMove s.host s.slotSwitches.host := by
  have htx (t : State) : HostMove t.host t.txSwitched.host :=
    .thenWatchSwitch (.thenRaise (.refl _) _) _
  have hcancel (n : ProfileSet) (t : State) : (t.cancelStaged n).host = t.host := by
    unfold State.cancelStaged; (repeat' split) <;> rfl
  have hsettle (p : Profile) (t : State) : (t.settleDrop p).host = t.host := by
    unfold State.settleDrop; (repeat' split) <;> rfl
  have hdrop (n : ProfileSet) (t : State) : HostMove t.host (t.dropActive n).host := by
    unfold State.dropActive
    dsimp only
    split
    · exact .refl _
    · refine .trans ?_ (htx _)
      rw [hsettle]
      exact .refl _
  have hcount (t : State) : HostMove t.host t.countStaged.host := by
    unfold State.countStaged
    (repeat' split) <;> [exact .refl _; exact htx _; exact .refl _]
  exact hcancel s.table.negotiated s ▸ .trans (hdrop _ _) (hcount _)

theorem State.limitWork_hostMove (txlim : Bool) : HostMove s.host (s.limitWork txlim).host := by
  have hstaged (t : State) : t.removeStagedUpshift.host = t.host := by
    unfold State.removeStagedUpshift; (repeat' split) <;> rfl
  unfold State.limitWork
  dsimp only
  refine .thenRaiseIf ?_ _ _
  split
  · exact .refl _
  · split <;> [(rw [hstaged]; exact .refl _); exact .refl _]
  · exact .refl _

theorem State.addPilot_hostMove : HostMove s.host s.addPilot.host := by
  unfold State.addPilot
  exact .thenRaiseIf (.refl _) _ _

theorem State.slotFinish_hostMove (echo : FrameNo) (txlim : Bool) : HostMove s.host (s.slotFinish echo txlim).host := by
  have hadvance (t : State) : HostMove t.host t.advancePilotTimer.host := by
    unfold State.advancePilotTimer State.expirePilotTimer
    (repeat' split) <;> [exact .refl _; exact State.addPilot_hostMove { t with tx := _ }; exact .refl _]
  exact .trans (hadvance s.reloadPilotTimer) (State.limitWork_hostMove (State.payPilot _ _) txlim)

theorem State.slotIdle_hostMove (echo : FrameNo) (txlim : Bool) : HostMove s.host (s.slotIdle echo txlim).host := by
  have hpower (t : State) : HostMove t.host (t.idlePower txlim).host := by
    unfold State.idlePower
    split <;> [exact t.setIdleAtten.limitWork_hostMove txlim; exact t.limitWork_hostMove txlim]
  exact hpower s.reloadPilotTimer

theorem State.endSecond_hostMove : HostMove s.host s.endSecond.host := by
  unfold State.endSecond
  exact .thenRaiseIf (.thenRaiseIf (.refl _) _ _) _ _

end

/-! ## The packaged induction -/

/-- The part of the law that every operation keeps, whether the controller is held or not. -/
def State.HostSound (s : State) : Prop := s.host.Sound ∧ s.intake.Ordered

/-- An operation of the running blocks: moves of the Host Link Unit, and the intake's slots as they were. -/
theorem State.HostSound.move {s t : State} (h : s.HostSound) (hm : HostMove s.host t.host)
    (hi : t.intake = s.intake := by simp) : t.HostSound :=
  ⟨hm.sound h.1, hi ▸ h.2⟩

/-- An operation that leaves the Host Link Unit alone. -/
theorem State.HostSound.same {s t : State} (h : s.HostSound) (hh : t.host = s.host := by simp)
    (hi : t.intake = s.intake := by simp) : t.HostSound :=
  h.move (hh ▸ .refl _) hi

theorem hostSound_entryLaw : EntryLaw State.HostSound Entry.InRange where
  outer _ _ _ hm h := ⟨hm.sound h.1, h.2⟩
  clearFresh _ h := h
  estimate s e _ h := h.move (.raiseIf { s with est := _ } _ _)
  trackFade s v h := h.move (s.trackFade_hostMove v)
  runDecision _ _ h := h.same
  signal s good h := h.move (s.signal_hostMove good)
  powerReceive _ _ h := h.same
  powerTransmit _ _ h := h.same
  monitorEntry _ _ h := h
  takeFarMask _ _ h := h.same
  swapAtEntry s h := h.move s.swapAtEntry_hostMove
  linkEntry s good h := h.move (s.linkEntry_hostMove good)

/-- R138: LINK_STOP leaves the descriptor in hand and the waiting slot alone. -/
theorem State.stopLink_ordered (s : State) (h : s.intake.Ordered) : s.stopLink.intake.Ordered := by
  unfold State.stopLink
  have hkeep (t : State) : (t.fadeLinkEvent .stopped).intake = t.intake := by simp
  split <;> [(rw [hkeep]; exact h); exact h]

theorem State.send_ordered (s : State) (d : Descriptor) : (s.send d).intake.Ordered := fun _ => rfl

theorem hostSound_stepLaw : StepLaw State.HostSound where
  toEntryLaw := hostSound_entryLaw
  commands _ _ h := h
  intake _ _ _ _ hi h := ⟨h.1, hi h.2⟩
  silence _ _ _ h := h
  lock _ _ _ _ hi h := ⟨h.1, hi h.2⟩
  enterResync s _ h := ⟨s.enterResync_hostMove.sound h.1, h.2⟩
  enterSearch s _ h := by
    have hmark : State.HostSound { s with intake := { s.intake with state := .search, runLen := 0 } } := h
    exact hmark.same.move (State.searchReached_hostMove _) (by simp [State.enterSearch])
  trySwap s h := h.move s.trySwap_hostMove
  fixEcho _ _ h := h
  slotSwitches s _ h := h.move s.slotSwitches_hostMove
  slotFinish s echo txlim _ h := ⟨(s.slotFinish_hostMove echo txlim).sound h.1, State.send_ordered _ _⟩
  slotIdle s echo txlim _ h := ⟨(s.slotIdle_hostMove echo txlim).sound h.1, State.send_ordered _ _⟩
  reply s m hroom h := ⟨⟨h.1.attn, h.1.input, by simpa [HostLink.reply] using hroom⟩, h.2⟩
  setValue _ _ _ h := h.same
  writeShadow _ _ _ h := h
  acceptSwap _ _ h := h
  installSwap _ _ _ h := h.same
  startLink _ _ h := h
  stopLink s _ h := ⟨s.stopLink_hostMove.sound h.1, s.stopLink_ordered h.2⟩
  setForce _ _ h := h
  addPilot s h := h.move s.addPilot_hostMove
  readFades _ _ h := h
  dropSwap _ h := h.move (.raise _ _)
  expireAnswer s _ h := h.move s.expireAnswerTimer_hostMove
  missSwitch _ _ h := h.move (.raise _ _)
  endBackoff _ _ h := h
  expireAcq _ _ h := h.move (.raise _ _)
  acqTimer _ _ _ h := h
  expirePilot s h := h.move (State.addPilot_hostMove { s with tx := _ })
  endSecond s h := h.move s.endSecond_hostMove
  millis _ _ h := h
  holdReset s _ h := ⟨(HostMove.flags s.host _ _).sound h.1, nofun⟩
  restartNow s _ h := ⟨⟨by simp [State.restartNow, HostLink.initial], Nat.zero_le _, Nat.le_add_left 1 7⟩, h.2⟩
  powerOn _ _ _ _ := ⟨HostLink.initial_sound _, nofun⟩
  release _ _ _ _ _ _ := ⟨HostLink.initial_sound _, nofun⟩

/-! ## The RESET line (R147) -/

theorem State.unlessHeld_resetLine {s : State} {f : State → State} (h : (f s).resetLine = s.resetLine) :
    (s.unlessHeld f).resetLine = s.resetLine := by
  unfold State.unlessHeld
  split <;> [rfl; exact h]

theorem State.take_resetLine {s : State} {kind : Byte} {len : Nat} {f : List Byte → State → Served}
    (h : ∀ p t, (f p t).state.resetLine = t.resetLine) :
    (s.unlessHeld (·.take kind len f)).resetLine = s.resetLine := by
  refine State.unlessHeld_resetLine ?_
  unfold State.take
  split
  · rfl
  · split
    · show (ite _ _ _ : Served).state.resetLine = s.resetLine
      split <;> [exact h _ s.dropRequest; rfl]
    · rfl

/-- R147: every row but POWER_ON and the RESET line's own two leaves the line as it stands. -/
theorem exec_resetLine (c : Instr) (s t : State) (hpower : ∀ a b d, c ≠ .powerOn a b d)
    (hassert : c ≠ .resetLineAssert) (hrelease : ∀ a b, c ≠ .resetLineRelease a b) (he : exec c s = .next t) :
    t.resetLine = s.resetLine := by
  cases c <;> cases he
  case powerOn => exact absurd rfl (hpower _ _ _)
  case resetLineAssert => exact absurd rfl hassert
  case resetLineRelease => exact absurd rfl (hrelease _ _)
  case unknownRecord => rfl
  case getInfo | readEvents | eventEnable | clearEvents | restart => exact State.take_resetLine fun _ _ => rfl
  case setSetting => exact State.take_resetLine fun p t => (serveSetSetting_keepsBooks p t).line
  case getSetting => exact State.take_resetLine fun p t => congrArg _ (serveGetSetting_state p t)
  case writeProfile => exact State.take_resetLine fun p t => (serveWriteProfile_keepsBooks p t).line
  case readProfile => exact State.take_resetLine fun p t => congrArg _ (serveReadProfile_state p t)
  case swapTable => exact State.take_resetLine fun _ t => (serveSwapTable_keepsBooks t).line
  case linkStart => exact State.take_resetLine fun _ t => (serveLinkStart_keepsBooks t).line
  case linkStop => exact State.take_resetLine fun _ t => (serveLinkStop_keepsBooks t).line
  case force => exact State.take_resetLine fun p t => (serveForce_keepsBooks p t).line
  case pilotNow => exact State.take_resetLine fun _ t => (servePilotNow_keepsBooks t).line
  case readStatus => exact State.take_resetLine fun p t => congrArg _ (serveReadStatus_state p t)
  case readHistory => exact State.take_resetLine fun p t => congrArg _ (serveReadHistory_state p t)
  case readFades => exact State.take_resetLine fun p t => (serveReadFades_keepsBooks p t).line
  case readBin => exact State.take_resetLine fun p t => congrArg _ (serveReadBin_state p t)
  case watch => exact State.take_resetLine fun p t => (serveWatch_keepsBooks p t).line
  all_goals refine State.unlessHeld_resetLine ?_
  case hostMessage bs => exact (s.receiveAll_keepsBooks bs).line
  case interByteTimeout => rfl
  case unknownKind => (repeat' split) <;> rfl
  case rxMetrics => exact (s.takeMetrics_keepsBooks _).line
  case txSlot => exact (s.takeSlot_keepsBooks _ _).line
  case descriptorSent => exact (s.finishDescriptor_keepsBooks _).line
  case secondEnd => rfl
  case silenceTimerExpiry => split <;> [exact s.expireSilence_keepsBooks.line; rfl]
  case answerTimerExpiry => split <;> [simp; rfl]
  case messageSent | restartTakesEffect | watchReport | swapTimeout | switchMissed | backoffExpiry | acqTimeout |
      pilotTimerExpiry => split <;> rfl

theorem State.tick_resetLine (s : State) : s.tick.resetLine = s.resetLine := by
  refine State.unlessHeld_resetLine ?_
  have htimers := s.tickTimers_keepsBooks.line
  unfold State.tickSecond
  split <;> exact htimers

/-! ## The law of a held controller (R151, R161, R178) -/

/-- R151, R178: while the RESET line is asserted every flag is clear, ATTN is deasserted, and no slot is in hand. -/
def State.HeldQuiet (s : State) : Prop :=
  s.resetLine.asserted = true →
    s.host.raised = 0#22 ∧ s.host.attn = false ∧ s.intake.sending = none ∧ s.intake.waiting = none

theorem State.HeldQuiet.of_running {s : State} (h : s.Running) : s.HeldQuiet :=
  fun ha => absurd ha (ne_true_of_eq_false h)

/-- R178: assertion of the RESET line clears every flag, and with them ATTN. -/
theorem State.holdReset_heldQuiet (s : State) : s.holdReset.HeldQuiet :=
  fun _ => ⟨rfl, by simp [State.holdReset, HostLink.setFlags, attnLevel], rfl, rfl⟩

/-- A held controller stays as it stands until power-on or the release of the line; a running one is held by power-on or
the assertion of the line alone. -/
theorem exec_heldQuiet (c : Instr) (s t : State) (h : s.HeldQuiet) (he : exec c s = .next t) : t.HeldQuiet := by
  by_cases hpower : ∃ a b d, c = .powerOn a b d
  · obtain ⟨a, b, d, rfl⟩ := hpower
    cases he
    cases d <;> [exact .of_running rfl; exact fun _ => ⟨rfl, rfl, rfl, rfl⟩]
  by_cases hrelease : ∃ a b, c = .resetLineRelease a b
  · obtain ⟨a, b, rfl⟩ := hrelease
    cases he
    split <;> [exact .of_running rfl; exact h]
  push Not at hpower hrelease
  by_cases hs : s.resetLine.asserted = true
  · cases (heldControllerTakesNothing c s hs hpower hrelease).symm.trans he
    exact h
  · have hrun : s.Running := eq_false_of_ne_true hs
    by_cases hassert : c = .resetLineAssert
    · subst hassert
      cases he
      exact State.unlessHeld_running hrun State.holdReset ▸ s.holdReset_heldQuiet
    · exact .of_running ((congrArg ResetLine.asserted (exec_resetLine c s t hpower hassert hrelease he)).trans hrun)

theorem step_heldQuiet (s t : State) (h : s.HeldQuiet) (he : step s = .next t) : t.HeldQuiet := by
  unfold step at he
  split at he
  · cases he
    by_cases hs : s.resetLine.asserted = true
    · rw [State.tick, State.unlessHeld_held hs]
      exact h
    · exact .of_running ((congrArg ResetLine.asserted s.tick_resetLine).trans (eq_false_of_ne_true hs))
  · next c rest _ => exact exec_heldQuiet c { s with pending := rest } t h he

theorem State.hostLaw_iff (s : State) : s.HostLaw ↔ s.HostSound ∧ s.HeldQuiet :=
  ⟨fun ⟨hattn, hheld, hinput, houtput, hslot⟩ => ⟨⟨⟨hattn, hinput, houtput⟩, hslot⟩, hheld⟩,
    fun ⟨⟨⟨hattn, hinput, houtput⟩, hslot⟩, hheld⟩ => ⟨hattn, hheld, hinput, houtput, hslot⟩⟩

/-- Settles O53: ATTN, the queues and the slots by the packaged induction over the machine; the held controller by what
the RESET line and power-on leave. -/
theorem hostLawIsKept : Obligations.HostLawIsKept := by
  unfold Obligations.HostLawIsKept
  intro s t hs he
  obtain ⟨hsound, hheld⟩ := s.hostLaw_iff.1 hs
  exact t.hostLaw_iff.2 ⟨hostSound_stepLaw.step s t hsound he, step_heldQuiet s t hheld he⟩

end Sys2Proof.Machine
end

section
/-! The host line: the bytes of a message collected, the check, and the bytes that make no message (R172, R173). -/

namespace Sys2Proof.Machine

/-- R172: the receiver collecting the bytes `c` (hunting, where absent), a byte having just come. -/
def State.collect (s : State) (c : Option (List Byte)) : State :=
  { s with host := { s.host with collecting := c, quiet := 0 } }

theorem State.collect_hunting {s : State} (h : s.host.collecting = none) :
    s.collect none = { s with host := { s.host with quiet := 0 } } := by
  unfold State.collect
  rw [← h]

section
variable (s : State)

/-! ## One byte (R172) -/

theorem State.receive_hunting {b : Byte} (hs : s.host.collecting = none) (hb : b ≠ 0xB7#8) :
    s.receive b = s.collect none := by
  simp [State.receive, receiveByte, hs, syncByte, hb, State.collect]

theorem State.receive_sync (hs : s.host.collecting = none) : s.receive 0xB7#8 = s.collect (some []) := by
  simp [State.receive, receiveByte, hs, syncByte, State.collect]

theorem State.receive_length (len : Byte) : (s.collect (some [])).receive len =
    s.collect (if 2 ≤ len.toNat ∧ len.toNat ≤ 250 then some [len] else none) := rfl

/-- R172: a byte before the last of the message. -/
theorem State.receive_body {len : Byte} {more : List Byte} (b : Byte) (h : more.length + 2 < len.toNat + 3) :
    (s.collect (some (len :: more))).receive b = s.collect (some (len :: (more ++ [b]))) := by
  have hlen : (len :: more ++ [b]).length < len.toNat + 3 := by simpa using h
  unfold State.receive receiveByte State.collect
  dsimp only
  rw [if_pos hlen]
  rfl

/-- R172: the last byte of the message. -/
theorem State.receive_last {len : Byte} {more : List Byte} (b : Byte) (h : more.length + 2 = len.toNat + 3) :
    (s.collect (some (len :: more))).receive b =
      if goodRecord (len.toNat + 3) (len :: more ++ [b]) then
        (s.collect none).complete
          { kind := byteAt (len :: more ++ [b]) 1, tag := byteAt (len :: more ++ [b]) 2
            payload := ((len :: more ++ [b]).drop 3).take (len.toNat - 2) }
      else s.collect none := by
  have hlen : ¬ (len :: more ++ [b]).length < len.toNat + 3 := by simp [h]
  unfold State.receive receiveByte State.collect
  dsimp only
  rw [if_neg hlen]
  by_cases hgood : goodRecord (len.toNat + 3) (len :: more ++ [b]) = true
  · rw [if_pos hgood, if_pos hgood]
  · rw [if_neg hgood, if_neg hgood]

/-! ## Bytes in order (R172) -/

theorem State.receiveAll_append (bs cs : List Byte) : s.receiveAll (bs ++ cs) = (s.receiveAll bs).receiveAll cs :=
  List.foldl_append

/-- R172: bytes that are no sync byte leave the receiver hunting. -/
theorem State.receiveAll_noise {noise : List Byte} (hs : s.host.collecting = none) (hnone : noise ≠ [])
    (hnoise : 0xB7#8 ∉ noise) : s.receiveAll noise = s.collect none := by
  induction noise generalizing s with
  | nil => exact absurd rfl hnone
  | cons b rest ih =>
    obtain ⟨hb, hrest⟩ : b ≠ 0xB7#8 ∧ 0xB7#8 ∉ rest :=
      ⟨fun h => hnoise (h ▸ List.mem_cons_self), fun h => hnoise (List.mem_cons_of_mem _ h)⟩
    show (s.receive b).receiveAll rest = _
    rw [s.receive_hunting hs hb]
    by_cases hr : rest = []
    · rw [hr]
      rfl
    · exact ih (s.collect none) rfl hr hrest

/-- R172: after any noise, the sync byte starts a message. -/
theorem State.receiveAll_sync {noise : List Byte} (hs : s.host.collecting = none) (hnoise : 0xB7#8 ∉ noise) :
    s.receiveAll (noise ++ [0xB7#8]) = s.collect (some []) := by
  rw [State.receiveAll_append]
  by_cases hnone : noise = []
  · subst hnone
    exact s.receive_sync hs
  · rw [s.receiveAll_noise hs hnone hnoise]
    exact (s.collect none).receive_sync rfl

/-- R172: the bytes of a message short of its last. -/
theorem State.receiveAll_body {len : Byte} (bs : List Byte) : ∀ more : List Byte,
    more.length + bs.length + 1 < len.toNat + 3 →
      (s.collect (some (len :: more))).receiveAll bs = s.collect (some (len :: (more ++ bs))) := by
  induction bs with
  | nil => exact fun more _ => by rw [List.append_nil]; rfl
  | cons b rest ih =>
    intro more h
    rw [List.length_cons] at h
    show ((s.collect (some (len :: more))).receive b).receiveAll rest = _
    rw [s.receive_body b (by omega), ih _ (by rw [List.length_append, List.length_singleton]; omega), List.append_assoc]
    rfl

end

/-! ## A whole message (R172, R182) -/

section
variable {len : Byte} (kind tag c0 c1 : Byte) {payload : List Byte}

/-- R150, R172: the check of a message's bytes. -/
theorem goodRecord_message (hpayload : payload.length + 2 = len.toNat) :
    goodRecord (len.toNat + 3) ([len, kind, tag] ++ payload ++ [c0, c1]) = true ↔
      [c0, c1] = le16 (crc16 ([len, kind, tag] ++ payload)) := by
  have hbody : ([len, kind, tag] ++ payload).length = len.toNat + 3 - 2 := by
    rw [List.length_append]
    simp only [List.length_cons, List.length_nil]
    omega
  rw [goodRecord_iff _ _ (by omega), ← hbody, List.drop_left, List.take_left]
  refine and_iff_right ?_
  simp only [List.length_append, List.length_cons, List.length_nil]
  omega

/-- R172: after the sync byte a message with a good check is complete, and one with another check is discarded. -/
theorem State.receiveAll_message (s : State) (hlow : 2 ≤ len.toNat) (hhigh : len.toNat ≤ 250)
    (hpayload : payload.length + 2 = len.toNat) :
    (s.collect (some [])).receiveAll ([len, kind, tag] ++ payload ++ [c0, c1]) =
      if [c0, c1] = le16 (crc16 ([len, kind, tag] ++ payload)) then
        (s.collect none).complete { kind := kind, tag := tag, payload := payload }
      else s.collect none := by
  have hsplit : [len, kind, tag] ++ payload ++ [c0, c1] = [len] ++ (kind :: tag :: (payload ++ [c0])) ++ [c1] := by simp
  have hlen : (s.collect (some [])).receiveAll [len] = s.collect (some [len]) :=
    (s.receive_length len).trans (by rw [if_pos ⟨hlow, hhigh⟩])
  have hbytes : len :: (kind :: tag :: (payload ++ [c0])) ++ [c1] = [len, kind, tag] ++ payload ++ [c0, c1] := by simp
  have hcarried : (([len, kind, tag] ++ payload ++ [c0, c1]).drop 3).take (len.toNat - 2) = payload := by
    show (payload ++ [c0, c1]).take (len.toNat - 2) = payload
    rw [show len.toNat - 2 = payload.length by omega, List.take_left]
  rw [hsplit, State.receiveAll_append, State.receiveAll_append, hlen,
    s.receiveAll_body _ [] (by simp only [List.length_cons, List.length_append, List.length_nil]; omega)]
  have hlast : ([] ++ kind :: tag :: (payload ++ [c0])).length + 2 = len.toNat + 3 := by
    simp only [List.nil_append, List.length_cons, List.length_append, List.length_nil]
    omega
  refine (s.receive_last c1 hlast).trans ?_
  rw [List.nil_append, hbytes, hcarried]
  simp only [goodRecord_message kind tag c0 c1 hpayload]
  rfl

end

/-! ## HOST_MESSAGE -/

theorem exec_hostMessage {s : State} (hs : s.Running) (bytes : List Byte) :
    exec (.hostMessage bytes) s = .next (s.receiveAll bytes) :=
  congrArg Host.Outcome.next (State.unlessHeld_running hs (·.receiveAll bytes))

/-- R172, R182: the bytes of an envelope, its check written as two bytes. -/
theorem envelope_eq (m : Message) : ∃ c0 c1,
    [c0, c1] = le16 (crc16 ([BitVec.ofNat 8 (m.payload.length + 2), m.kind, m.tag] ++ m.payload)) ∧
    envelope m = 0xB7#8 :: ([BitVec.ofNat 8 (m.payload.length + 2), m.kind, m.tag] ++ m.payload ++ [c0, c1]) :=
  ⟨_, _, rfl, rfl⟩

/-- Settles O9: the noise, the sync byte, and the bytes of the message one by one. -/
theorem envelopeCompletesMessage : Obligations.EnvelopeCompletesMessage := by
  unfold Obligations.EnvelopeCompletesMessage
  intro s noise m hs hhunting hnoise hlength
  obtain ⟨c0, c1, hcheck, henvelope⟩ := envelope_eq m
  have hlen : (BitVec.ofNat 8 (m.payload.length + 2)).toNat = m.payload.length + 2 := by
    rw [BitVec.toNat_ofNat]
    omega
  rw [exec_hostMessage hs, henvelope, List.append_cons, State.receiveAll_append, s.receiveAll_sync hhunting hnoise,
    State.receiveAll_message _ _ _ _ s (by omega) (by omega) hlen.symm, if_pos hcheck, State.collect_hunting hhunting]
  rfl

/-- Settles O10: the three kinds of bytes that make no message. -/
theorem damagedMessagesAreDiscarded : Obligations.DamagedMessagesAreDiscarded := by
  unfold Obligations.DamagedMessagesAreDiscarded
  intro s hs hhunting hunting
  have hhunt : hunting = .next (s.collect none) := congrArg _ (State.collect_hunting hhunting).symm
  have hsync : s.receiveAll [0xB7#8] = s.collect (some []) := s.receive_sync hhunting
  rw [hhunt]
  refine ⟨fun noise hnone hnoise => ?_, fun len hbad => ?_,
    fun len kind tag c0 c1 payload hlow hhigh hlength hcheck => ?_⟩
  · rw [exec_hostMessage hs, s.receiveAll_noise hhunting hnone hnoise]
  · have hrange : ¬ (2 ≤ len.toNat ∧ len.toNat ≤ 250) := by omega
    rw [exec_hostMessage hs, show [0xB7#8, len] = [0xB7#8] ++ [len] from rfl, State.receiveAll_append, hsync]
    exact congrArg _ ((s.receive_length len).trans (by rw [if_neg hrange]))
  · rw [exec_hostMessage hs, show [0xB7#8, len, kind, tag] ++ payload ++ [c0, c1] =
      [0xB7#8] ++ ([len, kind, tag] ++ payload ++ [c0, c1]) from rfl, State.receiveAll_append, hsync,
      s.receiveAll_message _ _ _ _ hlow hhigh hlength, if_neg hcheck]

end Sys2Proof.Machine
end

section
/-! Requests: when one is taken, the checks that come before its service, GET_INFO, and the events of the host line
(R172, R173, R174, R175, R181, R182). -/

namespace Sys2Proof.Machine

/-! ## Events of the host line (R172, R174) -/

/-- R181: the message being sent is not the OK reply of a RESTART. -/
theorem State.restartDue_eq_false {s : State} (h : s.host.restarting = false ∨
    ∀ m, s.host.outQueue.head? = some m → m.kind ≠ 0x93#8 ∨ m.payload ≠ [0#8]) : s.restartDue = false := by
  unfold State.restartDue
  rcases h with h | h
  · rw [h]
    rfl
  · cases hfront : s.host.outQueue.head? with
    | none => exact Bool.and_false _
    | some m =>
      have hreply : isRestartReply m = false := by
        rcases h m hfront with hkind | hpayload
        · simp [isRestartReply, hkind]
        · simp [isRestartReply, hpayload]
      exact (congrArg _ hreply).trans (Bool.and_false _)

/-- Settles O11: the message collected, and the message sent. -/
theorem hostLineEvents : Obligations.HostLineEvents := by
  unfold Obligations.HostLineEvents
  intro s hs
  refine ⟨congrArg Host.Outcome.next (State.unlessHeld_running hs _), fun hreply => ?_⟩
  rw [← List.drop_one]
  exact congrArg Host.Outcome.next ((State.unlessHeld_running hs _).trans
    (if_neg (ne_true_of_eq_false (State.restartDue_eq_false hreply))))

/-! ## When a request is taken (R173, R181) -/

section
variable {s : State} {m : Message}

theorem State.Ready.inBuf_eq (h : s.Ready m) : ∃ rest, s.host.inBuf = m :: rest := by
  have hfront := h.front
  cases hbuf : s.host.inBuf with
  | nil => rw [hbuf] at hfront; cases hfront
  | cons x rest => rw [hbuf] at hfront; cases hfront; exact ⟨rest, rfl⟩

theorem State.canTake_iff (s : State) : s.canTake = true ↔
    s.host.restarting = false ∧ s.host.outQueue.length < 8 ∧ s.host.inBuf ≠ [] := by
  have hfree : 1 ≤ s.host.freePlaces ↔ s.host.outQueue.length < 8 := by
    unfold HostLink.freePlaces Config.outQueueCapacity
    omega
  simp [State.canTake, hfree, and_assoc]

theorem State.Ready.canTake (h : s.Ready m) : s.canTake = true := by
  obtain ⟨rest, hbuf⟩ := h.inBuf_eq
  exact s.canTake_iff.2 ⟨h.serving, h.room, by simp [hbuf]⟩

variable {kind : Byte} {len : Nat} {f : List Byte → State → Served}

/-- R173, R181: the four reasons for which a row takes no request. -/
theorem State.take_nothing (h : s.host.inBuf = [] ∨ 8 ≤ s.host.outQueue.length ∨ s.host.restarting = true ∨
    ∃ m, s.host.inBuf.head? = some m ∧ m.kind ≠ kind) : s.take kind len f = s := by
  unfold State.take
  split
  · rfl
  · next m rest hbuf =>
    refine if_neg fun ⟨hcan, hkind⟩ => ?_
    obtain ⟨hserving, hroom, hwaits⟩ := s.canTake_iff.1 hcan
    rcases h with h | h | h | ⟨x, hx, hother⟩
    · exact hwaits h
    · omega
    · rw [hserving] at h
      cases h
    · rw [hbuf] at hx
      cases hx
      exact hother hkind

/-- R173: a request that can be taken, of the row's kind. -/
theorem State.Ready.take_checks (h : s.Ready m) (hkind : m.kind = kind) : s.unlessHeld (·.take kind len f) =
    (if m.payload.length = len then f m.payload s.dropRequest else refusal .badLength s.dropRequest).answers m := by
  obtain ⟨rest, hbuf⟩ := h.inBuf_eq
  rw [State.unlessHeld_running h.running, State.take]
  simp only [hbuf, h.canTake, hkind, true_and, if_true]
  rfl

/-- R173: a request that can be taken, of the row's kind and length, is answered as it is served. -/
theorem State.Ready.take_serves (h : s.Ready m) (hkind : m.kind = kind) (hlen : m.payload.length = len) :
    s.unlessHeld (·.take kind len f) = (f m.payload s.dropRequest).answers m := by
  subst hkind hlen
  exact h.take_eq f

end

/-- R182: every row of the table takes its request by its kind and length. -/
theorem exec_request {c : Instr} {kind : Byte} {len : Nat} (h : (c, kind, len) ∈ requestRows) :
    ∃ f, ∀ s, exec c s = .next (s.unlessHeld (·.take kind len f)) := by
  have hrows : ∀ row ∈ requestRows, ∃ f, ∀ s, exec row.1 s = .next (s.unlessHeld (·.take row.2.1 row.2.2 f)) := by
    simp only [requestRows, List.forall_mem_cons, List.not_mem_nil, IsEmpty.forall_iff, implies_true, and_true]
    and_intros
    all_goals exact ⟨_, fun _ => rfl⟩
  exact hrows _ h

/-- Settles O12: the four reasons for which no request is taken, and the check of its length. -/
theorem requestsAreChecked : Obligations.RequestsAreChecked := by
  unfold Obligations.RequestsAreChecked
  intro c kind len hrow s
  obtain ⟨f, hf⟩ := exec_request hrow
  refine ⟨fun hs hnone => ?_, fun m hready hkind hlen => ?_⟩
  · rw [hf, State.unlessHeld_running hs, State.take_nothing hnone]
  · rw [hf, hready.take_checks hkind, if_neg hlen]
    exact congrArg _ (refusal_answers _ _ m)

/-! ## A kind that is no request kind (R173) -/

/-- R182: the request kinds are those of the rows. -/
theorem requestKinds_eq : requestKinds = requestRows.map fun row => row.2.1 := rfl

/-- Settles O13: no row has the kind, so it is no request kind. -/
theorem unknownKindIsAnswered : Obligations.UnknownKindIsAnswered := by
  unfold Obligations.UnknownKindIsAnswered
  intro s m hready hother
  have hkind : m.kind ∉ requestKinds := by
    rw [requestKinds_eq, List.mem_map]
    rintro ⟨⟨c, kind, len⟩, hrow, hmem⟩
    exact hother c kind len hrow hmem.symm
  obtain ⟨rest, hbuf⟩ := hready.inBuf_eq
  refine congrArg Host.Outcome.next ((State.unlessHeld_running hready.running _).trans ?_)
  simp only [hbuf, hready.canTake, hkind, not_false_eq_true, and_self, if_true]
  rfl

/-! ## GET_INFO (R175) -/

/-- R175, R183: the five bytes of the identity. -/
theorem State.infoBytes_eq (s : State) : s.infoBytes = [0x40#8, 0x73#8, 1#8,
    match s.link.cause with | .powerOn => 0#8 | .resetLine => 1#8 | .restart => 2#8,
    BitVec.ofNat 8 s.host.rateCode] := by
  unfold State.infoBytes
  cases s.link.cause <;> rfl

/-- Settles O14: the bytes of the reply. -/
theorem getInfoAnswers : Obligations.GetInfoAnswers := by
  unfold Obligations.GetInfoAnswers
  intro s m hready hkind hpayload
  have hreply := hready.takeBare_eq hkind hpayload fun s => reading s.infoBytes s
  exact congrArg Host.Outcome.next (hreply.trans (congrArg (s.answered m 0#8) s.infoBytes_eq))

end Sys2Proof.Machine
end

section
/-! The settings: the values of the catalogue by id, SET_SETTING and GET_SETTING (R55, R124, R134, R173, R176). -/

namespace Sys2Proof.Machine

/-! ## The values by id (R176) -/

/-- R176: the 35 values, in the order of their ids. -/
def Settings.values (x : Settings) : List Int :=
  let n (k : Nat) : Int := k
  [x.divMode.code, n x.stressWeight, n x.smoothDown, n x.smoothUp, n x.horizon, n x.holdLimit, n x.clearSky,
   n x.fadeEnter, n x.fadeExit, n x.fadePersist, n x.fadeLimit, n x.stressSelective, n x.urgentMargin, n x.downDwell,
   n x.upDwell, n x.upHoldoff, if x.errorOverride then 1 else 0, n x.switchLead, n x.switchGuard, n x.askTimeout,
   n x.askBackoff, n x.acqTimeout, n x.pilotInterval, x.atpcMode.code, n x.fixedAtten, n x.attenMax, x.rslLow,
   x.rslHigh, n x.powerInterval, n x.lockCount, n x.badLimit, n x.resyncLimit, n x.recordTimeout, n x.sesPercent,
   n x.unavailRun]

theorem Settings.values_length (x : Settings) : x.values.length = 35 := rfl

theorem Settings.get_succ (x : Settings) (k : Nat) : x.get (k + 1) = x.values[k]? := by
  by_cases hk : k < 35
  · interval_cases k <;> rfl
  · rw [List.getElem?_eq_none (x.values_length.trans_le (Nat.le_of_not_lt hk))]
    unfold Settings.get
    split
    case h_36 => rfl
    all_goals omega

/-- R176: the ids run from 1 to 35. -/
theorem Settings.get_some (x : Settings) {id : Nat} (h : 1 ≤ id ∧ id ≤ 35) : ∃ v, x.get id = some v := by
  obtain ⟨k, rfl⟩ := Nat.exists_eq_add_of_le' h.1
  rw [x.get_succ, List.getElem?_eq_getElem (x.values_length ▸ h.2)]
  exact ⟨_, rfl⟩

theorem Settings.get_none (x : Settings) {id : Nat} (h : ¬ (1 ≤ id ∧ id ≤ 35)) : x.get id = none := by
  cases id with
  | zero => rfl
  | succ k => rw [x.get_succ, List.getElem?_eq_none (by rw [x.values_length]; omega)]

theorem settingKind_none {id : Nat} (h : ¬ (1 ≤ id ∧ id ≤ 35)) : settingKind id = none := by
  unfold settingKind
  split
  case h_36 => rfl
  all_goals omega

/-! ## A setting takes a value (R176) -/

theorem DivMode.code_divModeOf {v : Int} (h : 0 ≤ v ∧ v < 4) : (divModeOf v).code = v := by
  obtain ⟨hlow, hhigh⟩ := h
  interval_cases v <;> rfl

/-- R176: an admissible value is written in its own place, and every other stays. -/
theorem Settings.put_values (x : Settings) {k : Nat} {v : Int} (h : settingAdmits (k + 1) v) :
    (x.put (k + 1) v).values = x.values.set k v := by
  have hk : k < 35 := by
    by_contra hk
    rw [settingAdmits, settingKind_none (by omega)] at h
    exact h
  have hplaces : k = 0 ∨ (k = 16 ∨ k = 23) ∨ (k = 26 ∨ k = 27) ∨ (1 ≤ k ∧ k ≤ 15) ∨ (17 ≤ k ∧ k ≤ 22) ∨
      (24 ≤ k ∧ k ≤ 25) ∨ (28 ≤ k ∧ k ≤ 34) := by omega
  rcases hplaces with rfl | hflag | hlevel | ⟨hmin, hmax⟩ | ⟨hmin, hmax⟩ | ⟨hmin, hmax⟩ | ⟨hmin, hmax⟩
  · simp [Settings.put, Settings.values, DivMode.code_divModeOf h]
  · rcases hflag with rfl | rfl
    all_goals
      obtain ⟨hlow, hhigh⟩ : 0 ≤ v ∧ v < 2 := h
      interval_cases v <;> rfl
  · rcases hlevel with rfl | rfl <;> rfl
  all_goals
    interval_cases k
    all_goals
      obtain ⟨hlow, -, -⟩ := h
      simp [Settings.put, Settings.values, Int.toNat_of_nonneg (le_trans (by decide) hlow)]

theorem Settings.put_get (x : Settings) {id : Nat} {v : Int} (h : settingAdmits id v) :
    (x.put id v).get id = some v := by
  cases id with
  | zero => exact h.elim
  | succ k =>
    have hk : k < x.values.length := by
      by_contra hk
      rw [x.values_length] at hk
      rw [settingAdmits, settingKind_none (by omega)] at h
      exact h
    rw [Settings.get_succ, x.put_values h, List.getElem?_set_self hk]

theorem Settings.put_get_other (x : Settings) {id j : Nat} {v : Int} (h : settingAdmits id v) (hj : j ≠ id) :
    (x.put id v).get j = x.get j := by
  cases id with
  | zero => exact h.elim
  | succ k =>
    cases j with
    | zero => rfl
    | succ i => rw [Settings.get_succ, x.put_values h, List.getElem?_set_ne (by omega), Settings.get_succ]

/-! ## The clamp and the checks (R55, R124, R134, R176) -/

/-- R176: a numeric range, and that of pilot_interval. -/
theorem settingKind_numeric {id : Nat} {lo hi : Int} (h : settingKind id = some (.numeric lo hi)) :
    lo ≤ hi ∧ (id = 23 → lo = 0 ∧ 100 ≤ hi) ∧ (id = 26 → lo = 0) := by
  unfold settingKind at h
  split at h <;> cases h <;> decide

theorem clampSetting_eq {id : Nat} {lo hi : Int} (h : settingKind id = some (.numeric lo hi)) (v : Int) :
    clampSetting id lo hi v = nearestValue id lo hi v := by
  obtain ⟨hle, hpilot, -⟩ := settingKind_numeric h
  have hclamp : clampInt lo hi v = max lo (min hi v) := by
    unfold clampInt
    split <;> [omega; (split <;> omega)]
  unfold clampSetting nearestValue
  dsimp only
  rw [hclamp]
  by_cases hid : id = 23
  · obtain ⟨hlo, hhi⟩ := hpilot hid
    have hiff : (1 ≤ max lo (min hi v) ∧ max lo (min hi v) ≤ 99) ↔ (1 ≤ v ∧ v ≤ 99) := by omega
    simp only [hid, true_and, hiff]
  · rw [if_neg (fun h => hid h.1), if_neg (fun h => hid h.1)]

/-- R176: the clamped value is one that the setting may hold. -/
theorem nearestValue_admits {id : Nat} {lo hi : Int} (h : settingKind id = some (.numeric lo hi)) (v : Int) :
    settingAdmits id (nearestValue id lo hi v) := by
  obtain ⟨hle, hpilot, -⟩ := settingKind_numeric h
  unfold settingAdmits nearestValue
  rw [h]
  dsimp only
  split
  · next hid => omega
  · next hid =>
    refine ⟨by omega, by omega, fun hid' => ?_⟩
    obtain ⟨hlo, hhi⟩ := hpilot hid'
    omega

/-- R124: a bound on the largest backoff is one on the backoff of each enabled row. -/
theorem largestBackoff_le (t : Table) (n : Nat) :
    largestBackoff t ≤ n ↔ ∀ p : Profile, (t[p]).enabled = true → (t[p]).backoff ≤ n := by
  have key (rows : List ProfileRow) : ∀ m : Nat,
      rows.foldl (fun m row => if row.enabled then max m row.backoff else m) m ≤ n ↔
        m ≤ n ∧ ∀ row ∈ rows, row.enabled = true → row.backoff ≤ n := by
    induction rows with
    | nil => simp
    | cons row rest ih =>
      intro m
      rw [List.foldl_cons, ih, List.forall_mem_cons]
      cases hrow : row.enabled <;> simp [and_assoc]
  unfold largestBackoff
  rw [key]
  refine (and_iff_right (Nat.zero_le n)).trans ⟨fun h p => h _ ?_, fun h row hrow => ?_⟩
  · simp
  · obtain ⟨i, hi, rfl⟩ := List.getElem_of_mem hrow
    exact h ⟨i, by simpa using hi⟩

theorem State.admits_iff (s : State) (id : Nat) (v : Int) : s.Admits id v ↔
    (id = 8 → (s.settings.fadeExit : Int) < v) ∧ (id = 9 → v < s.settings.fadeEnter) ∧
    (id = 26 → ∀ p : Profile, (s.table.active[p]).enabled = true → ((s.table.active[p]).backoff : Int) ≤ v) ∧
    (id = 27 → v < s.settings.rslHigh) ∧ (id = 28 → s.settings.rslLow < v) :=
  ⟨fun ⟨enter, exit, atten, low, high⟩ => ⟨enter, exit, atten, low, high⟩,
    fun ⟨enter, exit, atten, low, high⟩ => ⟨enter, exit, atten, low, high⟩⟩

/-- R55, R124, R134: the cross-setting checks. -/
theorem State.crossCheck_iff (s : State) {id : Nat} {v : Int} (h : id = 26 → 0 ≤ v) :
    s.crossCheck id v = true ↔ s.Admits id v := by
  unfold State.crossCheck
  split
  case h_3 =>
    obtain ⟨n, rfl⟩ := Int.eq_ofNat_of_zero_le (h rfl)
    simp [State.admits_iff, largestBackoff_le]
  case h_6 h8 h9 h26 h27 h28 =>
    exact iff_of_true rfl ⟨fun hid => (h8 hid).elim, fun hid => (h9 hid).elim, fun hid => (h26 hid).elim,
      fun hid => (h27 hid).elim, fun hid => (h28 hid).elim⟩
  all_goals simp [State.admits_iff]

/-- R176: a numeric value that passes the check, and one that fails it. -/
theorem State.setValue_numeric (s : State) {id : Nat} {lo hi : Int} (h : settingKind id = some (.numeric lo hi))
    (v : Int) :
    (s.Admits id (nearestValue id lo hi v) → s.setValue id v = (.ok, s.putSetting id (nearestValue id lo hi v))) ∧
    (¬ s.Admits id (nearestValue id lo hi v) → s.setValue id v = (.order, s)) := by
  have hzero : id = 26 → 0 ≤ nearestValue id lo hi v := by
    intro hid
    obtain ⟨-, -, hatten⟩ := settingKind_numeric h
    have hadmits := nearestValue_admits h v
    unfold settingAdmits at hadmits
    rw [h] at hadmits
    exact hatten hid ▸ hadmits.1
  rw [← s.crossCheck_iff hzero]
  unfold State.setValue
  rw [h]
  dsimp only
  rw [clampSetting_eq h]
  exact ⟨fun hc => if_pos hc, fun hc => if_neg hc⟩

/-- R176: a code of an enumeration, and a value that is none. -/
theorem State.setValue_enumeration (s : State) {id : Nat} {codes : Int}
    (h : settingKind id = some (.enumeration codes)) (v : Int) :
    (0 ≤ v ∧ v < codes → s.setValue id v = (.ok, s.putSetting id v)) ∧
    (¬ (0 ≤ v ∧ v < codes) → s.setValue id v = (.outOfRange, s)) := by
  unfold State.setValue
  rw [h]
  exact ⟨fun hv => if_pos hv, fun hv => if_neg hv⟩

/-- R176: no setting has the id. -/
theorem State.setValue_none (s : State) {id : Nat} (h : ¬ (1 ≤ id ∧ id ≤ 35)) (v : Int) :
    s.setValue id v = (.outOfRange, s) := by
  unfold State.setValue
  rw [settingKind_none h]

/-! ## SET_SETTING (R176) -/

theorem State.settingPayload_some {s : State} {id : Byte} {v : Int} (h : s.settings.get id.toNat = some v) :
    s.settingPayload id = id :: le32 (BitVec.ofInt 32 v) := by
  unfold State.settingPayload
  rw [h]
  rfl

theorem State.settingPayload_none {s : State} {id : Byte} (h : s.settings.get id.toNat = none) :
    s.settingPayload id = [] := by
  unfold State.settingPayload
  rw [h]

section
variable {s : State} {m : Message} {id : Byte} {v : BitVec 32}

theorem exec_setSetting (h : s.Ready m) (hkind : m.kind = 0x02#8) (hpayload : m.payload = id :: le32 v) :
    exec .setSetting s = .next (Served.answers
      { status := (s.dropRequest.setValue id.toNat v.toInt).1
        payload := (s.dropRequest.setValue id.toNat v.toInt).2.settingPayload id
        state := (s.dropRequest.setValue id.toNat v.toInt).2 } m) := by
  have hvalue : doubleAt (id :: le32 v) 1 = v := by
    have := doubleAt_le32 [id] [] v
    rwa [List.append_nil] at this
  have htake := h.take_serves (f := serveSetSetting) hkind (congrArg List.length hpayload)
  rw [hpayload, serveSetSetting, hvalue] at htake
  exact congrArg Host.Outcome.next htake

/-- R117, R176: a value taken: the setting with the id holds it, every other its own. -/
theorem exec_setSetting_taken (h : s.Ready m) (hkind : m.kind = 0x02#8) (hpayload : m.payload = id :: le32 v) {w : Int}
    (hw : settingAdmits id.toNat w)
    (hset : s.dropRequest.setValue id.toNat v.toInt = (.ok, s.dropRequest.putSetting id.toNat w)) :
    ∃ x : Settings, x.get id.toNat = some w ∧ (∀ j, j ≠ id.toNat → x.get j = s.settings.get j) ∧
      exec .setSetting s = .next (State.answered { s with
        settings := x
        tx := { s.tx with pilotReload := s.tx.pilotReload || id == 23#8 } } m 0#8
          (id :: le32 (BitVec.ofInt 32 w))) := by
  have hget := s.settings.put_get hw
  have hid : (id == 23#8) = (id.toNat == 23) := by
    rw [Bool.eq_iff_iff, beq_iff_eq, beq_iff_eq, BitVec.toNat_eq]
    rfl
  refine ⟨s.settings.put id.toNat w, hget, fun j hj => s.settings.put_get_other hw hj, ?_⟩
  rw [exec_setSetting h hkind hpayload, hset, hid, State.settingPayload_some (v := w) hget]
  rfl

/-- R173, R176: a value refused, for an id that a setting has. -/
theorem exec_setSetting_refused (h : s.Ready m) (hkind : m.kind = 0x02#8) (hpayload : m.payload = id :: le32 v)
    {status : Status} {u : Int} (hget : s.settings.get id.toNat = some u)
    (hset : s.dropRequest.setValue id.toNat v.toInt = (status, s.dropRequest)) :
    exec .setSetting s = .next (s.answered m status.code (id :: le32 (BitVec.ofInt 32 u))) := by
  rw [exec_setSetting h hkind hpayload, hset, State.settingPayload_some (s := s.dropRequest) hget]
  rfl

end

/-- Settles O15: the table of ranges and codes against the model's, the clamp, the checks, and the value in force. -/
theorem setSettingAnswers : Obligations.SetSettingAnswers := by
  unfold Obligations.SetSettingAnswers
  refine ⟨?_, fun x => rfl⟩
  intro s m id v hready hkind hpayload numeric enumerations taken refused
  have hnumeric : ∀ row ∈ numeric, settingKind row.1 = some (.numeric row.2.1 row.2.2) := by decide
  have henumerations : ∀ row ∈ enumerations, settingKind row.1 = some (.enumeration row.2) := by decide
  have hsome {k : SettingKind} (hk : settingKind id.toNat = some k) : ∃ u, s.settings.get id.toNat = some u := by
    refine s.settings.get_some ?_
    by_contra hid
    rw [settingKind_none hid] at hk
    cases hk
  refine ⟨fun lo hi hrow => ?_, fun codes hrow => ?_, fun hid => ?_⟩
  · have hk := hnumeric _ hrow
    obtain ⟨u, hu⟩ := hsome hk
    obtain ⟨hok, horder⟩ := s.dropRequest.setValue_numeric hk v.toInt
    have hadmits : s.dropRequest.Admits id.toNat (nearestValue id.toNat lo hi v.toInt) ↔
        s.Admits id.toNat (nearestValue id.toNat lo hi v.toInt) := by
      rw [State.admits_iff, State.admits_iff]
      rfl
    exact ⟨fun h => exec_setSetting_taken hready hkind hpayload (nearestValue_admits hk _) (hok (hadmits.2 h)),
      fun h => ⟨u, hu, exec_setSetting_refused hready hkind hpayload hu (horder (mt hadmits.1 h))⟩⟩
  · have hk := henumerations _ hrow
    obtain ⟨u, hu⟩ := hsome hk
    obtain ⟨hok, hrange⟩ := s.dropRequest.setValue_enumeration hk v.toInt
    have hadmits (hv : 0 ≤ v.toInt ∧ v.toInt < codes) : settingAdmits id.toNat v.toInt := by
      unfold settingAdmits
      rw [hk]
      exact hv
    exact ⟨fun hv => exec_setSetting_taken hready hkind hpayload (hadmits hv) (hok hv),
      fun hv => ⟨u, hu, exec_setSetting_refused hready hkind hpayload hu (hrange hv)⟩⟩
  · have hout : ¬ (1 ≤ id.toNat ∧ id.toNat ≤ 35) := by omega
    rw [exec_setSetting hready hkind hpayload, State.setValue_none _ hout,
      State.settingPayload_none (s := s.dropRequest) (s.settings.get_none hout)]
    rfl

/-! ## GET_SETTING (R176) -/

/-- Settles O16: the ids that a setting has, and the others. -/
theorem getSettingAnswers : Obligations.GetSettingAnswers := by
  unfold Obligations.GetSettingAnswers
  intro s m id hready hkind hpayload
  have hexec : exec .getSetting s = .next ((serveGetSetting [id] s.dropRequest).answers m) := by
    have htake := hready.take_serves (f := serveGetSetting) hkind (congrArg List.length hpayload)
    rw [hpayload] at htake
    exact congrArg Host.Outcome.next htake
  have hread : byteAt [id] 0 = id := rfl
  rw [hexec, serveGetSetting, hread]
  refine ⟨fun hid => ?_, fun hid => ?_⟩
  · obtain ⟨v, hv⟩ := s.settings.get_some hid
    refine ⟨v, hv, ?_⟩
    simp only [State.dropRequest_settings, hv]
    rw [State.settingPayload_some (s := s.dropRequest) hv]
    rfl
  · simp only [State.dropRequest_settings, s.settings.get_none hid]
    rfl

end Sys2Proof.Machine
end

section
/-! The event requests, and what a cause makes of its flag, of ATTN and of the output queue (R174, R177, R178). -/

namespace Sys2Proof.Machine

/-! ## One flag among the raised (R177) -/

theorem EventFlag.bit_getLsbD (f g : EventFlag) : f.bit.getLsbD g.num = decide (g = f) := by
  have hlt := f.num_lt
  rw [EventFlag.bit, ← BitVec.twoPow_eq, BitVec.getLsbD_twoPow, Bool.eq_iff_iff]
  simp only [hlt, decide_true, Bool.true_and, decide_eq_true_eq]
  rw [EventFlag.num_inj, eq_comm]

theorem EventFlag.and_bit_ne_zero (f : EventFlag) (x : BitVec 22) : x &&& f.bit ≠ 0#22 ↔ x.getLsbD f.num = true := by
  have hlt := f.num_lt
  rw [EventFlag.bit, ← BitVec.twoPow_eq, BitVec.and_twoPow]
  cases x.getLsbD f.num
  · simp
  · refine iff_of_true (fun hzero => ?_) rfl
    have hbit := congrArg (·.getLsbD f.num) hzero
    simp [hlt] at hbit

/-- R177: bits 22 to 31 of a set are ignored. -/
theorem EventFlag.setWidth_getLsbD (f : EventFlag) (set : BitVec 32) :
    (set.setWidth 22).getLsbD f.num = set.getLsbD f.num := by
  simp [f.num_lt]

theorem EventFlag.cleared_getLsbD (f : EventFlag) (raised : BitVec 22) (set : BitVec 32) :
    (raised &&& ~~~(set.setWidth 22)).getLsbD f.num = (raised.getLsbD f.num && !set.getLsbD f.num) := by
  simp [f.num_lt]

/-- R177: the set that a request carries. -/
theorem flagsAt_le32 (set : BitVec 32) : flagsAt (le32 set) 0 = set.setWidth 22 := by
  have := doubleAt_le32 [] [] set
  rw [List.append_nil, List.nil_append] at this
  exact congrArg (·.setWidth 22) this

/-! ## A cause (R174, R177, R178) -/

/-- R177: a cause that finds its flag raised changes nothing. -/
theorem State.raise_raised {s : State} {f : EventFlag} (h : s.host.raised.getLsbD f.num = true) : s.raise f = s := by
  unfold State.raise HostLink.raise
  rw [if_pos ((f.and_bit_ne_zero _).2 h)]

/-- R174: a notice is queued while at least two places are free. -/
theorem HostLink.notice_eq (h : HostLink) (m : Message) : h.notice m =
    { h with outQueue := if h.outQueue.length ≤ 6 then h.outQueue ++ [m] else h.outQueue } := by
  have hfree : 2 ≤ h.freePlaces ↔ h.outQueue.length ≤ 6 := by
    unfold HostLink.freePlaces Config.outQueueCapacity
    omega
  unfold HostLink.notice
  simp only [hfree]
  split <;> rfl

/-- R177, R178: a cause that finds its flag clear raises it, ATTN follows, and a notice tells of it. -/
theorem State.raise_clear {s : State} {f : EventFlag} (h : s.host.raised.getLsbD f.num = false) :
    s.raise f = { s with host := { s.host with
      raised := s.host.raised ||| f.bit
      attn := attnLevel (s.host.raised ||| f.bit) s.host.enabled
      outQueue := if s.host.enabled.getLsbD f.num = true ∧ s.host.outQueue.length ≤ 6 then
          s.host.outQueue ++ [eventNotice f (s.host.raised ||| f.bit)]
        else s.host.outQueue } } := by
  have hclear : ¬ (s.host.raised &&& f.bit ≠ 0#22) := by
    rw [f.and_bit_ne_zero, h]
    exact Bool.false_ne_true
  unfold State.raise HostLink.raise
  dsimp only
  rw [if_neg hclear]
  by_cases he : s.host.enabled.getLsbD f.num = true
  · rw [if_pos ((f.and_bit_ne_zero _).2 he), HostLink.notice_eq]
    simp only [he, true_and]
    rfl
  · rw [if_neg (mt (f.and_bit_ne_zero _).1 he), if_neg fun hboth => he hboth.1]
    rfl

/-! ## The requests (R177) -/

section
variable {s : State} {m : Message}

theorem exec_eventEnable (h : s.Ready m) (hkind : m.kind = 0x0F#8) {set : BitVec 32} (hpayload : m.payload = le32 set) :
    exec .eventEnable s = .next (State.answered { s with
      host := s.host.setFlags s.host.raised (set.setWidth 22) } m 0#8 []) := by
  have htake := h.take_serves (f := serveEventEnable) hkind (congrArg List.length hpayload)
  rw [hpayload, serveEventEnable, flagsAt_le32] at htake
  exact congrArg Host.Outcome.next htake

theorem exec_clearEvents (h : s.Ready m) (hkind : m.kind = 0x10#8) {set : BitVec 32} (hpayload : m.payload = le32 set) :
    exec .clearEvents s = .next (State.answered { s with
      host := s.host.setFlags (s.host.raised &&& ~~~(set.setWidth 22)) s.host.enabled } m 0#8 []) := by
  have htake := h.take_serves (f := serveClearEvents) hkind (congrArg List.length hpayload)
  rw [hpayload, serveClearEvents, flagsAt_le32] at htake
  exact congrArg Host.Outcome.next htake

theorem exec_readEvents (h : s.Ready m) (hkind : m.kind = 0x11#8) (hpayload : m.payload = []) :
    exec .readEvents s = .next (s.answered m 0#8 (flagBytes s.host.raised ++ flagBytes s.host.enabled)) :=
  congrArg Host.Outcome.next (h.takeBare_eq hkind hpayload fun s =>
    reading (flagBytes s.host.raised ++ flagBytes s.host.enabled) s)

end

/-- Settles O31: the three requests, and a cause that finds its flag raised or clear. -/
theorem eventRequestsAnswer : Obligations.EventRequestsAnswer := by
  unfold Obligations.EventRequestsAnswer
  refine ⟨fun s m hready => ⟨fun set hkind hpayload => ?_, fun set hkind hpayload => ?_, exec_readEvents hready⟩,
    fun s f => ⟨State.raise_raised, fun hclear => ?_⟩⟩
  · refine ⟨_, set.setWidth 22, ?_, fun f => f.setWidth_getLsbD set, exec_eventEnable hready hkind hpayload⟩
    simp only [attnLevel_iff, EventFlag.setWidth_getLsbD]
  · refine ⟨_, s.host.raised &&& ~~~(set.setWidth 22), ?_, fun f => f.cleared_getLsbD s.host.raised set,
      exec_clearEvents hready hkind hpayload⟩
    simp only [attnLevel_iff, EventFlag.cleared_getLsbD]
  · refine ⟨_, s.host.raised ||| f.bit, attnLevel_iff _ s.host.enabled, fun g => ?_, State.raise_clear hclear⟩
    rw [BitVec.getLsbD_or, f.bit_getLsbD g]

end Sys2Proof.Machine
end

section
/-! WATCH, the triggers of a report, and its assembly (R174, R179, R180). -/

namespace Sys2Proof.Machine

/-! ## The mask of groups (R179, R180) -/

/-- R179: bits 6 and 7 of a mask are ignored. -/
theorem mask_low (mask : Byte) : (mask.setWidth 6).setWidth 8 = mask &&& 0x3F#8 := by
  apply BitVec.eq_of_toNat_eq
  have hmod := Nat.and_two_pow_sub_one_eq_mod mask.toNat 6
  simp only [BitVec.toNat_setWidth, BitVec.toNat_and]
  show mask.toNat % 2 ^ 6 % 2 ^ 8 = mask.toNat &&& (2 ^ 6 - 1)
  omega

/-- R179, R180: a mask that names no group. -/
theorem mask_empty (mask : Byte) : mask.setWidth 6 = 0#6 ↔ mask &&& 0x3F#8 = 0#8 := by
  rw [← mask_low]
  refine ⟨fun h => by rw [h]; rfl, fun h => ?_⟩
  have hlow := congrArg (·.setWidth 6) h
  simpa using hlow

/-! ## The request (R180) -/

/-- R180: the code of a watch mode. -/
def WatchMode.HasCode (w : WatchMode) (mode : Byte) : Prop :=
  mode = 0#8 ∧ w = .off ∨ mode = 1#8 ∧ w = .once ∨ mode = 2#8 ∧ w = .periodic ∨ mode = 3#8 ∧ w = .onSwitch

theorem watchModeOf_none {n : Nat} (h : 3 < n) : watchModeOf n = none := by
  obtain ⟨k, rfl⟩ := Nat.exists_eq_add_of_le' h
  rfl

theorem watchModeOf_some {mode : Byte} (h : ¬ 3 < mode.toNat) :
    ∃ w, watchModeOf mode.toNat = some w ∧ w.HasCode mode := by
  have hcodes : mode = 0#8 ∨ mode = 1#8 ∨ mode = 2#8 ∨ mode = 3#8 := by bv_omega
  rcases hcodes with rfl | rfl | rfl | rfl
  · exact ⟨.off, rfl, .inl ⟨rfl, rfl⟩⟩
  · exact ⟨.once, rfl, .inr (.inl ⟨rfl, rfl⟩)⟩
  · exact ⟨.periodic, rfl, .inr (.inr (.inl ⟨rfl, rfl⟩))⟩
  · exact ⟨.onSwitch, rfl, .inr (.inr (.inr ⟨rfl, rfl⟩))⟩

/-- R180: the two checks of a WATCH whose mode is one of the four. -/
theorem watchRefused_iff {mode : Byte} {w : WatchMode} (hw : w.HasCode mode) (mask : BitVec 6) (period : Nat) :
    watchRefused w mask period = true ↔ (mode ≠ 0#8 ∧ mask = 0#6) ∨ (mode = 2#8 ∧ period < 16) := by
  rcases hw with ⟨rfl, rfl⟩ | ⟨rfl, rfl⟩ | ⟨rfl, rfl⟩ | ⟨rfl, rfl⟩ <;> simp [watchRefused]

section
variable {s : State} {m : Message} {mode mask : Byte} {period : BitVec 16}

/-- R180: WATCH, its payload read. -/
theorem exec_watch (h : s.Ready m) (hkind : m.kind = 0x12#8) (hpayload : m.payload = [mode, mask] ++ le16 period) :
    exec .watch s = .next (Served.answers (match watchModeOf mode.toNat with
      | none => refusal .outOfRange s.dropRequest
      | some w =>
        if watchRefused w (mask.setWidth 6) period.toNat then refusal .outOfRange s.dropRequest
        else done { s.dropRequest with host := { s.dropRequest.host with
          watch := s.host.watch.set w (mask.setWidth 6) period.toNat } }) m) := by
  have hperiod : wordAt ([mode, mask] ++ le16 period) 2 = period := by
    have := wordAt_le16 [mode, mask] [] period
    rwa [List.append_nil] at this
  have htake := h.take_serves (f := serveWatch) hkind (congrArg List.length hpayload)
  rw [hpayload, serveWatch, hperiod] at htake
  exact congrArg Host.Outcome.next htake

theorem watch_refused (h : s.Ready m) (hkind : m.kind = 0x12#8) (hpayload : m.payload = [mode, mask] ++ le16 period)
    (hbad : 3 < mode.toNat ∨ (mode ≠ 0#8 ∧ mask &&& 0x3F#8 = 0#8) ∨ (mode = 2#8 ∧ period.toNat < 16)) :
    exec .watch s = .next (s.answered m 4#8 []) := by
  rw [exec_watch h hkind hpayload]
  by_cases hmode : 3 < mode.toNat
  · rw [watchModeOf_none hmode]
    rfl
  · obtain ⟨w, hw, hcode⟩ := watchModeOf_some hmode
    rw [hw]
    dsimp only
    rw [if_pos ((watchRefused_iff hcode _ _).2 (by rw [mask_empty]; exact hbad.resolve_left hmode))]
    rfl

theorem watch_taken (h : s.Ready m) (hkind : m.kind = 0x12#8) (hpayload : m.payload = [mode, mask] ++ le16 period)
    (hgood : ¬ (3 < mode.toNat ∨ (mode ≠ 0#8 ∧ mask &&& 0x3F#8 = 0#8) ∨ (mode = 2#8 ∧ period.toNat < 16))) :
    ∃ w : WatchMode, w.HasCode mode ∧
      exec .watch s = .next (State.answered { s with host := { s.host with
        watch := s.host.watch.set w (mask.setWidth 6) period.toNat } } m 0#8 []) := by
  obtain ⟨hmode, hchecks⟩ := not_or.1 hgood
  obtain ⟨w, hw, hcode⟩ := watchModeOf_some hmode
  refine ⟨w, hcode, ?_⟩
  rw [exec_watch h hkind hpayload, hw]
  dsimp only
  rw [if_neg (mt (watchRefused_iff hcode _ _).1 (by rwa [mask_empty]))]
  rfl

end

/-! ## The assembly of a report (R174, R180) -/

section
variable (s : State)

theorem exec_watchReport (hs : s.Running) : exec .watchReport s = .next
    (match s.host.watch.triggered with | [] => s | t :: _ => s.assembleReport t) :=
  congrArg Host.Outcome.next ((State.unlessHeld_running hs _).trans (by cases s.host.watch.triggered <;> rfl))

/-- R180: the watch after the oldest report has taken its number. -/
def WatchState.numbered (w : WatchState) : WatchState :=
  { w with report := w.report + 1#16, triggered := w.triggered.drop 1 }

theorem State.assembleReport_queues (t : WatchTrigger) (h : s.host.outQueue.length ≤ 6) :
    s.assembleReport t = { s with host := { s.host with
      watch := s.host.watch.numbered, outQueue := s.host.outQueue ++ [s.watchNotice t] } } := by
  have hfree : decide (s.host.freePlaces < 2) = false := by
    unfold HostLink.freePlaces Config.outQueueCapacity
    exact decide_eq_false (by omega)
  unfold State.assembleReport
  dsimp only
  rw [hfree, HostLink.notice_eq, if_pos h]
  rfl

theorem State.assembleReport_drops (t : WatchTrigger) (h : 6 < s.host.outQueue.length) :
    s.assembleReport t = { s with host := { s.host with watch := s.host.watch.numbered } }.raise .watchDropped := by
  have hfull : decide (s.host.freePlaces < 2) = true := by
    unfold HostLink.freePlaces Config.outQueueCapacity
    exact decide_eq_true (by omega)
  unfold State.assembleReport
  dsimp only
  rw [hfull, HostLink.notice_eq, if_neg (Nat.not_le_of_lt h)]
  rfl

theorem State.assembleReport_triggered (t : WatchTrigger) :
    (s.assembleReport t).host.watch.triggered = s.host.watch.triggered.drop 1 := by
  unfold State.assembleReport
  simp only [State.raiseIf_host]
  split <;> simp

/-- R180: of the reports that wait the oldest is assembled first. -/
theorem State.assembleReports_cons {t : WatchTrigger} {rest : List WatchTrigger}
    (h : s.host.watch.triggered = t :: rest) : s.assembleReports = (s.assembleReport t).assembleReports := by
  unfold State.assembleReports
  rw [s.assembleReport_triggered, h]
  rfl

theorem State.assembleReports_nil (h : s.host.watch.triggered = []) : s.assembleReports = s := by
  unfold State.assembleReports
  rw [h]
  rfl

/-! ## The triggers (R180) -/

theorem State.watchEntry_idle (h : s.host.watch.mode = .off ∨ s.host.watch.mode = .onSwitch) : s.watchEntry = s := by
  unfold State.watchEntry WatchState.entry
  rcases h with h | h <;> rw [h]

theorem State.watchEntry_once (h : s.host.watch.mode = .once) : s.watchEntry = { s with host := { s.host with
    watch := { s.host.watch with mode := .off, triggered := s.host.watch.triggered ++ [.once] } } } := by
  unfold State.watchEntry WatchState.entry
  rw [h]
  rfl

theorem State.watchEntry_counts (h : s.host.watch.mode = .periodic)
    (hcount : s.host.watch.counter + 1 < s.host.watch.period) : s.watchEntry = { s with host := { s.host with
      watch := { s.host.watch with counter := s.host.watch.counter + 1 } } } := by
  unfold State.watchEntry WatchState.entry
  rw [h]
  dsimp only
  rw [if_neg (Nat.not_le_of_lt hcount), h]

theorem State.watchEntry_periodic (h : s.host.watch.mode = .periodic)
    (hcount : s.host.watch.period ≤ s.host.watch.counter + 1) : s.watchEntry = { s with host := { s.host with
      watch := { s.host.watch with counter := 0, triggered := s.host.watch.triggered ++ [.periodic] } } } := by
  unfold State.watchEntry WatchState.entry
  rw [h]
  dsimp only
  rw [if_pos hcount]
  rfl

theorem State.watchSwitch_triggers (t : WatchTrigger) (h : s.host.watch.mode = .onSwitch) :
    s.watchSwitch t = { s with host := { s.host with
      watch := { s.host.watch with triggered := s.host.watch.triggered ++ [t] } } } := by
  unfold State.watchSwitch
  rw [if_pos h]
  rfl

theorem State.watchSwitch_other (t : WatchTrigger) (h : s.host.watch.mode ≠ .onSwitch) : s.watchSwitch t = s := by
  unfold State.watchSwitch
  rw [if_neg h]

end

/-- Settles O32: the request, the assembly of the oldest report and of all, and the triggers by their mode. -/
theorem watchReports : Obligations.WatchReports := by
  unfold Obligations.WatchReports
  refine ⟨fun s m mode mask period hready hkind hpayload => ?_, fun s t rest hs htriggered => ?_,
    fun s t hs he => ?_, fun s => ?_⟩
  · exact ⟨watch_refused hready hkind hpayload, watch_taken hready hkind hpayload⟩
  · have hexec : exec .watchReport s = .next (s.assembleReport t) := by rw [exec_watchReport s hs, htriggered]
    have hw : s.host.watch.numbered =
        { s.host.watch with report := s.host.watch.report + 1#16, triggered := rest } := by
      rw [WatchState.numbered, htriggered]
      rfl
    refine ⟨fun hroom => ?_, fun hfull => ?_⟩
    · rw [hexec, s.assembleReport_queues t hroom, hw]
      cases t <;> rfl
    · rw [hexec, s.assembleReport_drops t hfull, hw]
  · rw [exec_watchReport s hs] at he
    cases htriggered : s.host.watch.triggered with
    | nil =>
      rw [htriggered] at he
      cases he
      exact ⟨rfl, fun _ => ⟨s.assembleReports_nil htriggered, rfl⟩⟩
    | cons x rest =>
      rw [htriggered] at he
      cases he
      exact ⟨s.assembleReports_cons htriggered, nofun⟩
  · exact ⟨s.watchEntry_idle, s.watchEntry_once, s.watchEntry_counts, s.watchEntry_periodic,
      fun x => ⟨s.watchSwitch_triggers x, s.watchSwitch_other x⟩⟩

end Sys2Proof.Machine
end

section
/-! READ_STATUS: the request, the order of the groups, and the items of each, one by one (R15, R38, R56, R79, R105,
R121, R135, R149, R163, R179, R183). -/

namespace Sys2Proof.Machine

/-! ## Packed items (R183) -/

/-- R163, R56: the number of a run's record, 0 while the run is empty. -/
theorem le16_ite (n : Nat) (w : BitVec 16) :
    le16 (if n = 0 then 0#16 else w) = if n = 0 then [0#8, 0#8] else le16 w := by
  split <;> rfl

theorem leNat32_ite (n k : Nat) :
    leNat32 (if n = 0 then 0 else k) = if n = 0 then [0#8, 0#8, 0#8, 0#8] else le32 (BitVec.ofNat 32 k) := by
  split <;> rfl

/-- R49, R183: the kind of a fade, as a byte. -/
theorem fadeKind_code (sum count limit : Nat) :
    le8 (fadeKind sum count limit).code = leBool (decide (limit ≤ sum / count)) := by
  unfold fadeKind
  by_cases h : limit ≤ sum / count
  · rw [if_pos h, decide_eq_true h]
    rfl
  · rw [if_neg h, decide_eq_false h]
    rfl

/-! ## The groups in order (R179) -/

theorem groupBytes_setWidth (mask : Byte) (g : Nat) (hg : g < 6) (contents : List Byte) :
    groupBytes (mask.setWidth 6) g contents =
      if mask.getLsbD g then BitVec.ofNat 8 g :: BitVec.ofNat 8 contents.length :: contents else [] := by
  unfold groupBytes
  rw [BitVec.getLsbD_setWidth, decide_eq_true hg, Bool.true_and]
  rfl

theorem State.groups_eq (s : State) (mask : Byte) : s.groups (mask.setWidth 6) =
    (List.range 6).flatMap fun g =>
      let contents := [s.group0, s.group1, s.group2, s.group3, s.group4, s.group5].getD g []
      if mask.getLsbD g then BitVec.ofNat 8 g :: BitVec.ofNat 8 contents.length :: contents else [] := by
  unfold State.groups
  rw [groupBytes_setWidth mask 0 (by decide), groupBytes_setWidth mask 1 (by decide),
    groupBytes_setWidth mask 2 (by decide), groupBytes_setWidth mask 3 (by decide),
    groupBytes_setWidth mask 4 (by decide), groupBytes_setWidth mask 5 (by decide)]
  simp [List.range_succ]

/-! ## The request (R179) -/

section
variable {s : State} {m : Message} {mask : Byte}

theorem exec_readStatus (h : s.Ready m) (hkind : m.kind = 0x0B#8) (hpayload : m.payload = [mask]) :
    exec .readStatus s = .next ((serveReadStatus [mask] s.dropRequest).answers m) := by
  have htake := h.take_serves (f := serveReadStatus) hkind (congrArg List.length hpayload)
  rw [hpayload] at htake
  exact congrArg Host.Outcome.next htake

theorem readStatus_refused (h : s.Ready m) (hkind : m.kind = 0x0B#8) (hpayload : m.payload = [mask])
    (hmask : mask &&& 0x3F#8 = 0#8) : exec .readStatus s = .next (s.answered m 4#8 []) := by
  rw [exec_readStatus h hkind hpayload]
  exact congrArg (fun r : Served => Host.Outcome.next (r.answers m)) (if_pos ((mask_empty mask).2 hmask))

theorem readStatus_reads (h : s.Ready m) (hkind : m.kind = 0x0B#8) (hpayload : m.payload = [mask])
    (hmask : mask &&& 0x3F#8 ≠ 0#8) : exec .readStatus s =
      .next (s.answered m 0#8 ((mask &&& 0x3F#8) :: s.groups (mask.setWidth 6))) := by
  rw [exec_readStatus h hkind hpayload, ← mask_low]
  exact congrArg (fun r : Served => Host.Outcome.next (r.answers m)) (if_neg (mt (mask_empty mask).1 hmask))

end

/-- Settles O27: the request, the groups in order, and the items of each against their rules. -/
theorem readStatusAnswers : Obligations.ReadStatusAnswers := by
  unfold Obligations.ReadStatusAnswers
  intro s m mask hready hkind hpayload n8 n16 n32 flag part index wide group0 group1 result group2 l group3 floor group4
    group5 contents named
  have hflag : leBool = flag := funext fun b => by cases b <;> rfl
  have hindex : leOpt = index := funext fun o => by cases o <;> rfl
  have hresult : resultBytes s.freeCount s.decision.last = result := by
    simp only [result, ← hflag]
    cases s.decision.last <;> rfl
  have hgroup0 : s.group0 = group0 := by
    simp only [State.group0, hflag, le16_ite]
    rfl
  have hgroup1 : s.group1 = group1 := by
    simp only [State.group1, hflag]
    rfl
  have hgroup2 : s.group2 = group2 := by
    simp only [State.group2, leProfile, hindex, hresult]
    rfl
  have hgroup3 : s.group3 = group3 := by
    simp only [State.group3, farViewBytes, laneTimerBytes, hflag, hindex, ← List.append_assoc]
    rfl
  have hgroup4 : s.group4 = group4 := by
    simp only [State.group4, hflag, hindex]
    rfl
  have hgroup5 : s.group5 = group5 := by
    simp only [State.group5, le16_ite, leNat32_ite, openFadeBytes, fadeBytes, OpenFade.close, fadeKind_code, hflag]
    rfl
  have hnamed : s.groups (mask.setWidth 6) = named := by
    rw [s.groups_eq, hgroup0, hgroup1, hgroup2, hgroup3, hgroup4, hgroup5]
  exact ⟨readStatus_refused hready hkind hpayload, hnamed ▸ readStatus_reads hready hkind hpayload, hnamed⟩

end Sys2Proof.Machine
end

section
/-! The queue of commands: a step takes the command at its front, and no command touches the rest of it. -/

namespace Sys2Proof.Machine

/-! ## The front of the queue -/

/-- Settles O1: with a command at the front, the step is that command's arm. -/
theorem stepRunsFrontCommand : Obligations.StepRunsFrontCommand := by
  unfold Obligations.StepRunsFrontCommand
  intro c s
  rfl

/-! ## Entries and the records of the modem (R16, R152 to R158) -/

@[simp] theorem State.handleEntry_pending (s : State) (e : Entry) : (s.handleEntry e).pending = s.pending := by
  obtain ⟨-, -, -, hpending⟩ := s.handleEntry_frame e
  exact hpending

@[simp] theorem State.deliver_pending (s : State) (m : Metrics) (resumed valid : Bool) :
    (s.deliver m resumed valid).pending = s.pending :=
  State.handleEntry_pending _ _

@[simp] theorem State.deliverHeld_pending (k : Nat) : ∀ (s : State) (first : FrameNo),
    (s.deliverHeld first k).pending = s.pending := by
  induction k with
  | zero => exact fun _ _ => rfl
  | succ k ih => exact fun s _ => (ih _ _).trans (s.handleEntry_pending _)

section
variable (s : State) (good : Bool) (m : Metrics)

@[simp] theorem State.lock_pending : (s.lock m).pending = s.pending := State.deliver_pending _ _ _ _

@[simp] theorem State.searchRecord_pending : (s.searchRecord good m).pending = s.pending := by
  unfold State.searchRecord
  (repeat' split) <;> simp

@[simp] theorem State.lockedGood_pending : (s.lockedGood m).pending = s.pending := by
  unfold State.lockedGood
  dsimp only
  (repeat' split) <;> simp

@[simp] theorem State.lockedBad_pending : s.lockedBad.pending = s.pending := by
  unfold State.lockedBad
  split <;> simp

@[simp] theorem State.resyncRecord_pending : (s.resyncRecord good m).pending = s.pending := by
  unfold State.resyncRecord
  dsimp only
  (repeat' split) <;> simp

end

theorem State.takeMetrics_pending (s : State) (bs : List Byte) : (s.takeMetrics bs).pending = s.pending := by
  unfold State.takeMetrics
  dsimp only
  (repeat' split) <;> simp

theorem State.expireSilence_pending (s : State) : s.expireSilence.pending = s.pending := by
  unfold State.expireSilence
  split <;> simp

/-! ## Slots and the host line (R107, R161, R172) -/

theorem State.takeSlot_pending (s : State) (bs : List Byte) (l : Bool) : (s.takeSlot bs l).pending = s.pending := by
  unfold State.takeSlot
  split <;> simp

theorem State.finishDescriptor_pending (s : State) (l : Bool) : (s.finishDescriptor l).pending = s.pending := by
  unfold State.finishDescriptor
  (repeat' split) <;> simp

theorem State.receive_pending (s : State) (b : Byte) : (s.receive b).pending = s.pending := by
  unfold State.receive State.complete
  dsimp only
  (repeat' split) <;> rfl

theorem State.receiveAll_pending (bs : List Byte) : ∀ s : State, (s.receiveAll bs).pending = s.pending := by
  induction bs with
  | nil => exact fun _ => rfl
  | cons b bs ih => exact fun s => (ih (s.receive b)).trans (s.receive_pending b)

/-! ## Requests (R173) -/

section
variable (p : List Byte) (s : State)

theorem serveSetSetting_pending : (serveSetSetting p s).state.pending = s.pending := by simp [serveSetSetting]

theorem serveWriteProfile_pending : (serveWriteProfile p s).state.pending = s.pending := by
  unfold serveWriteProfile; (repeat' split) <;> rfl

theorem serveSwapTable_pending : (serveSwapTable s).state.pending = s.pending := by
  unfold serveSwapTable; (repeat' split) <;> rfl

theorem serveLinkStart_pending : (serveLinkStart s).state.pending = s.pending := by
  unfold serveLinkStart; split <;> rfl

theorem serveLinkStop_pending : (serveLinkStop s).state.pending = s.pending := by
  unfold serveLinkStop; split <;> simp [refusal, done]

theorem serveForce_pending : (serveForce p s).state.pending = s.pending := by
  unfold serveForce; (repeat' split) <;> rfl

theorem servePilotNow_pending : (servePilotNow s).state.pending = s.pending := by
  unfold servePilotNow; split <;> rfl

theorem serveReadFades_pending : (serveReadFades p s).state.pending = s.pending := by
  unfold serveReadFades; dsimp only; split <;> rfl

theorem serveWatch_pending : (serveWatch p s).state.pending = s.pending := by
  unfold serveWatch; dsimp only; (repeat' split) <;> rfl

end

theorem State.unlessHeld_pending {s : State} {f : State → State} (h : (f s).pending = s.pending) :
    (s.unlessHeld f).pending = s.pending := by
  unfold State.unlessHeld
  split <;> [rfl; exact h]

/-- Taking a request leaves the queue alone where its service does. -/
theorem State.take_pending {s : State} {kind : Byte} {len : Nat} {f : List Byte → State → Served}
    (h : ∀ p t, (f p t).state.pending = t.pending) :
    (s.unlessHeld (·.take kind len f)).pending = s.pending := by
  refine State.unlessHeld_pending ?_
  unfold State.take
  split
  · rfl
  · split
    · show (ite _ _ _ : Served).state.pending = s.pending
      split <;> [exact h _ s.dropRequest; rfl]
    · rfl

/-! ## Every command -/

theorem exec_pending (c : Instr) (s t : State) (he : exec c s = .next t) : t.pending = s.pending := by
  cases c <;> cases he
  case unknownRecord => rfl
  case powerOn | resetLineRelease => split <;> rfl
  case getInfo | readEvents | eventEnable | clearEvents | restart => exact State.take_pending fun _ _ => rfl
  case setSetting => exact State.take_pending serveSetSetting_pending
  case getSetting => exact State.take_pending fun p t => congrArg _ (serveGetSetting_state p t)
  case writeProfile => exact State.take_pending serveWriteProfile_pending
  case readProfile => exact State.take_pending fun p t => congrArg _ (serveReadProfile_state p t)
  case swapTable => exact State.take_pending fun _ => serveSwapTable_pending
  case linkStart => exact State.take_pending fun _ => serveLinkStart_pending
  case linkStop => exact State.take_pending fun _ => serveLinkStop_pending
  case force => exact State.take_pending serveForce_pending
  case pilotNow => exact State.take_pending fun _ => servePilotNow_pending
  case readStatus => exact State.take_pending fun p t => congrArg _ (serveReadStatus_state p t)
  case readHistory => exact State.take_pending fun p t => congrArg _ (serveReadHistory_state p t)
  case readFades => exact State.take_pending serveReadFades_pending
  case readBin => exact State.take_pending fun p t => congrArg _ (serveReadBin_state p t)
  case watch => exact State.take_pending serveWatch_pending
  all_goals refine State.unlessHeld_pending ?_
  case resetLineAssert | interByteTimeout | secondEnd => rfl
  case hostMessage bs => exact s.receiveAll_pending bs
  case unknownKind => (repeat' split) <;> rfl
  case rxMetrics => exact s.takeMetrics_pending _
  case txSlot => exact s.takeSlot_pending _ _
  case descriptorSent => exact s.finishDescriptor_pending _
  case silenceTimerExpiry => split <;> [exact s.expireSilence_pending; rfl]
  case answerTimerExpiry => split <;> [simp; rfl]
  case messageSent | restartTakesEffect | watchReport | swapTimeout | switchMissed | backoffExpiry | acqTimeout |
      pilotTimerExpiry => split <;> rfl

/-- Settles O3, command by command: an RX_METRICS by the frame of an entry, a request by the frame of its service. -/
theorem commandsLeaveQueueAlone : Obligations.CommandsLeaveQueueAlone := by
  unfold Obligations.CommandsLeaveQueueAlone
  exact exec_pending

end Sys2Proof.Machine
end

section
/-! Validation of a table (R5): the rows examined from the lowest up, against the nearest lower enabled row, find the
lowest row that fails and its first test; a table without a failure has its enabled rows in order throughout. -/

namespace Sys2Proof.Machine

/-! ## The failures of one row (R5) -/

section
variable {t : Table} {attenMax : Nat}

/-- R5: `lower` is the nearest enabled row below the index `n`, absent when every row below is disabled. -/
def NearestLower (t : Table) (n : Nat) : Option ProfileRow → Prop
  | none => ∀ k : Profile, k.val < n → (t[k]).enabled = false
  | some row => ∃ j : Profile, j.val < n ∧ (t[j]).enabled = true ∧ t[j] = row ∧
      ∀ k : Profile, j < k → k.val < n → (t[k]).enabled = false

theorem NearestLower.enabled_row {i : Profile} (h : (t[i]).enabled = true) :
    NearestLower t (i.val + 1) (some t[i]) :=
  ⟨i, Nat.lt_succ_self _, h, rfl, fun _ hik hk => absurd hik (Fin.not_lt.2 (Nat.le_of_lt_succ hk))⟩

theorem NearestLower.disabled_row {i : Profile} {lower : Option ProfileRow} (hl : NearestLower t i.val lower)
    (h : (t[i]).enabled = false) : NearestLower t (i.val + 1) lower := by
  have hbelow {k : Profile} (hk : k.val < i.val + 1) (hlt : k.val < i.val → (t[k]).enabled = false) :
      (t[k]).enabled = false := by
    rcases Nat.lt_succ_iff_lt_or_eq.1 hk with hk | hk
    · exact hlt hk
    · rwa [Fin.ext hk]
  cases lower with
  | none => exact fun k hk => hbelow hk (hl k)
  | some row =>
    obtain ⟨j, hj, hen, hrow, hgap⟩ := hl
    exact ⟨j, Nat.lt_succ_of_lt hj, hen, hrow, fun k hjk hk => hbelow hk (hgap k hjk)⟩

theorem orderFails_iff (row lower : ProfileRow) : orderFails row lower = true ↔
    row.tDown ≤ lower.tDown ∨ row.tUp ≤ lower.tUp ∨ row.capacity ≤ lower.capacity ∨ row.backoff < lower.backoff := by
  simp [orderFails, or_assoc]

/-- R5: ORDER fails against the nearest lower enabled row. -/
theorem rowFails_order_iff {i : Profile} {lower : Option ProfileRow} (hl : NearestLower t i.val lower)
    (h : (t[i]).enabled = true) : RowFails t attenMax i .order ↔ lower.elim false (orderFails t[i]) = true := by
  cases lower with
  | none =>
    refine iff_of_false ?_ nofun
    rintro ⟨-, j, hji, hen, -⟩
    exact absurd hen (ne_true_of_eq_false (hl j hji))
  | some row =>
    obtain ⟨j, hji, hen, rfl, hgap⟩ := hl
    refine Iff.trans ⟨?_, fun hfails => ⟨h, j, hji, hen, hgap, hfails⟩⟩ (orderFails_iff _ _).symm
    rintro ⟨-, k, hki, hken, hkgap, hfails⟩
    rcases lt_trichotomy j k with hjk | rfl | hkj
    · exact absurd hken (ne_true_of_eq_false (hgap k hjk hki))
    · exact hfails
    · exact absurd hen (ne_true_of_eq_false (hkgap j hkj hji))

/-- R5: the test is the first, in the order of the rule, that row `i` fails. -/
def FirstTest (t : Table) (attenMax : Nat) (i : Profile) (test : RowTest) : Prop :=
  RowFails t attenMax i test ∧ ∀ other, RowFails t attenMax i other → test.place ≤ other.place

/-- R5: what an examination of row `i` finds: no failure, or the first test that it fails. -/
def RowVerdict (t : Table) (attenMax : Nat) (i : Profile) : Option RowTest → Prop
  | none => ∀ test, ¬ RowFails t attenMax i test
  | some test => FirstTest t attenMax i test

/-- R5: an enabled row, examined test by test. -/
theorem rowFailure_verdict {i : Profile} {lower : Option ProfileRow} (hl : NearestLower t i.val lower)
    (h : (t[i]).enabled = true) : RowVerdict t attenMax i (rowFailure t[i] lower attenMax) := by
  have hrow0 : ¬ RowFails t attenMax i .row0 := fun hf => ne_true_of_eq_false hf.2 h
  have horder := rowFails_order_iff (attenMax := attenMax) hl h
  unfold rowFailure
  split
  · next hh =>
    refine ⟨⟨h, hh⟩, fun other ho => ?_⟩
    cases other <;> [exact absurd ho hrow0; decide; decide; decide]
  next hh =>
  have hhyst : ¬ RowFails t attenMax i .hysteresis := fun hf => hh hf.2
  split
  · next ho =>
    refine ⟨horder.2 ho, fun other hother => ?_⟩
    cases other <;> [exact absurd hother hrow0; exact absurd hother hhyst; decide; decide]
  next ho =>
  have hord : ¬ RowFails t attenMax i .order := fun hf => ho (horder.1 hf)
  split
  · next hb =>
    refine ⟨⟨h, hb⟩, fun other hother => ?_⟩
    cases other <;> [exact absurd hother hrow0; exact absurd hother hhyst; exact absurd hother hord; decide]
  · next hb =>
    intro test hf
    cases test <;> [exact hrow0 hf; exact hhyst hf; exact hord hf; exact hb hf.2]

/-- R5: a disabled row fails nothing, unless it is row 0. -/
theorem disabled_verdict {i : Profile} (h : (t[i]).enabled = false) :
    RowVerdict t attenMax i (if i.val = 0 then some .row0 else none) := by
  have hne : ¬ (t[i]).enabled = true := ne_true_of_eq_false h
  split
  · next hi => exact ⟨⟨Fin.ext hi, h⟩, fun other _ => Nat.zero_le _⟩
  · next hi =>
    intro test hf
    cases test <;> [exact hi (congrArg Fin.val hf.1); exact hne hf.1; exact hne hf.1; exact hne hf.1]

/-! ## The rows from an index upward (R5) -/

/-- R5: what validation finds from row `n` upward: no failure, or the lowest row that fails, with its first test. -/
def RowsVerdict (t : Table) (attenMax n : Nat) : Option (Nat × RowTest) → Prop
  | none => ∀ i : Profile, n ≤ i.val → RowVerdict t attenMax i none
  | some (row, test) => ∃ i : Profile, row = i.val ∧ FirstTest t attenMax i test ∧
      ∀ j : Profile, n ≤ j.val → j < i → RowVerdict t attenMax j none

/-- The verdict from row `i + 1` upward is that from row `i` upward, when row `i` fails no test. -/
theorem RowsVerdict.extend {i : Profile} {r : Option (Nat × RowTest)} (hi : RowVerdict t attenMax i none)
    (h : RowsVerdict t attenMax (i.val + 1) r) : RowsVerdict t attenMax i.val r := by
  have hfrom {k : Profile} (hk : i.val ≤ k.val) (hlater : i.val + 1 ≤ k.val → RowVerdict t attenMax k none) :
      RowVerdict t attenMax k none := by
    rcases Nat.lt_or_eq_of_le hk with hk | hk
    · exact hlater hk
    · rwa [Fin.ext hk.symm]
  match r, h with
  | none, h => exact fun k hk => hfrom hk (h k)
  | some (row, test), ⟨j, hrow, hfirst, hbelow⟩ =>
    exact ⟨j, hrow, hfirst, fun k hk hkj => hfrom hk fun hlater => hbelow k hlater hkj⟩

theorem RowsVerdict.found {i : Profile} {test : RowTest} (h : FirstTest t attenMax i test) :
    RowsVerdict t attenMax i.val (some (i.val, test)) :=
  ⟨i, rfl, h, fun _ hij hji => absurd hji (Fin.not_lt.2 hij)⟩

/-- R5: the rows from `n` upward, by induction on how many are left. -/
theorem validateFrom_verdict (left : Nat) : ∀ (n : Nat) (lower : Option ProfileRow), n + left = 16 →
    NearestLower t n lower → RowsVerdict t attenMax n (validateFrom attenMax (t.toList.drop n) n lower) := by
  induction left with
  | zero =>
    intro n lower hn _
    rw [List.drop_eq_nil_of_le (by simpa using hn.ge)]
    exact fun i hi => absurd i.isLt (by omega)
  | succ left ih =>
    intro n lower hn hl
    have hlt : n < 16 := by omega
    let i : Profile := ⟨n, hlt⟩
    have hdrop : t.toList.drop n = t[i] :: t.toList.drop (n + 1) := by
      rw [List.drop_eq_getElem_cons (by simpa using hlt)]
      rfl
    rw [hdrop, validateFrom]
    split
    · next hen =>
      have hrow := rowFailure_verdict (i := i) (attenMax := attenMax) hl hen
      split
      · next test hfail =>
        rw [hfail] at hrow
        exact .found (i := i) hrow
      · next hnone =>
        rw [hnone] at hrow
        exact .extend (i := i) hrow (ih (n + 1) _ (by omega) (.enabled_row (i := i) hen))
    · next hdis =>
      have hdis : (t[i]).enabled = false := eq_false_of_ne_true hdis
      have hrow := disabled_verdict (attenMax := attenMax) hdis
      split
      · next hzero =>
        subst hzero
        exact .found (i := i) hrow
      · next hpos =>
        rw [if_neg hpos] at hrow
        exact .extend (i := i) hrow (ih (n + 1) _ (by omega) (.disabled_row (i := i) hl hdis))

theorem validate_verdict (t : Table) (attenMax : Nat) : RowsVerdict t attenMax 0 (validate t attenMax) :=
  validateFrom_verdict 16 0 none rfl fun _ hk => absurd hk (Nat.not_lt_zero _)

/-! ## The whole table (R5) -/

theorem RowTest.place_inj {a b : RowTest} (h : a.place = b.place) : a = b := by
  cases a <;> cases b <;> simp_all [RowTest.place]

/-- R5: a table has one first failure at most. -/
theorem FirstFailure.unique {i j : Profile} {a b : RowTest} (ha : FirstFailure t attenMax i a)
    (hb : FirstFailure t attenMax j b) : i = j ∧ a = b := by
  obtain rfl : i = j := le_antisymm (ha.lowest j b hb.fails) (hb.lowest i a ha.fails)
  exact ⟨rfl, RowTest.place_inj (le_antisymm (ha.first b hb.fails) (hb.first a ha.fails))⟩

/-- R5: what validation answers is the first failure. -/
theorem validate_eq_some {row : Nat} {test : RowTest} (h : validate t attenMax = some (row, test)) :
    ∃ i : Profile, row = i.val ∧ FirstFailure t attenMax i test := by
  have hverdict := validate_verdict t attenMax
  rw [h] at hverdict
  obtain ⟨i, hrow, ⟨hfails, hfirst⟩, hbelow⟩ := hverdict
  exact ⟨i, hrow, hfails, hfirst, fun j other hj => not_lt.1 fun hji => hbelow j (Nat.zero_le _) hji other hj⟩

theorem validate_eq_none_iff : validate t attenMax = none ↔
    ∀ (i : Profile) (test : RowTest), ¬ RowFails t attenMax i test := by
  refine ⟨fun h => ?_, fun h => ?_⟩
  · have hverdict := validate_verdict t attenMax
    rw [h] at hverdict
    exact fun i => hverdict i (Nat.zero_le _)
  · cases hv : validate t attenMax with
    | none => rfl
    | some found =>
      obtain ⟨i, -, hfirst⟩ := validate_eq_some hv
      exact absurd hfirst.fails (h i _)

theorem FirstFailure.validate_eq {i : Profile} {test : RowTest} (h : FirstFailure t attenMax i test) :
    validate t attenMax = some (i.val, test) := by
  cases hv : validate t attenMax with
  | none => exact absurd h.fails (validate_eq_none_iff.1 hv i test)
  | some found =>
    obtain ⟨row, other⟩ := found
    obtain ⟨j, rfl, hj⟩ := validate_eq_some hv
    obtain ⟨rfl, rfl⟩ := h.unique hj
    rfl

/-- R5: what ORDER asks of two enabled rows. -/
def ProfileRow.Below (lower row : ProfileRow) : Prop :=
  lower.tDown < row.tDown ∧ lower.tUp < row.tUp ∧ lower.capacity < row.capacity ∧ lower.backoff ≤ row.backoff

theorem ProfileRow.Below.trans {a b c : ProfileRow} (hab : a.Below b) (hbc : b.Below c) : a.Below c := by
  obtain ⟨hd, hu, hc, hb⟩ := hab
  obtain ⟨hd', hu', hc', hb'⟩ := hbc
  exact ⟨hd.trans hd', hu.trans hu', hc.trans hc', hb.trans hb'⟩

theorem ProfileRow.not_below_iff (lower row : ProfileRow) : ¬ lower.Below row ↔
    row.tDown ≤ lower.tDown ∨ row.tUp ≤ lower.tUp ∨ row.capacity ≤ lower.capacity ∨ row.backoff < lower.backoff := by
  unfold ProfileRow.Below
  omega

/-- Below an index that has an enabled row below it there is a nearest one. -/
theorem exists_nearest {i j : Profile} (hji : j < i) (hj : (t[j]).enabled = true) :
    ∃ k : Profile, j ≤ k ∧ k < i ∧ (t[k]).enabled = true ∧
      ∀ l : Profile, k < l → l < i → (t[l]).enabled = false := by
  let below : Finset Profile := Finset.univ.filter fun k => k < i ∧ (t[k]).enabled = true
  have hmem {k : Profile} : k ∈ below ↔ k < i ∧ (t[k]).enabled = true := by simp [below]
  have hne : below.Nonempty := ⟨j, hmem.2 ⟨hji, hj⟩⟩
  obtain ⟨hki, hk⟩ := hmem.1 (below.max'_mem hne)
  refine ⟨_, below.le_max' j (hmem.2 ⟨hji, hj⟩), hki, hk, fun l hkl hli => eq_false_of_ne_true fun hl => ?_⟩
  exact absurd hkl (not_lt.2 (below.le_max' l (hmem.2 ⟨hli, hl⟩)))

/-- R5: rows each above their nearest lower enabled row are in order throughout, by induction on the upper row. -/
theorem ordered_of_adjacent (h : ∀ i : Profile, ¬ RowFails t attenMax i .order) (n : Nat) :
    ∀ i j : Profile, i.val = n → j < i → (t[j]).enabled = true → (t[i]).enabled = true →
      (t[j]).Below t[i] := by
  induction n using Nat.strong_induction_on with
  | _ n ih =>
    rintro i j rfl hji hj hi
    obtain ⟨k, hjk, hki, hk, hgap⟩ := exists_nearest hji hj
    have hadjacent : (t[k]).Below t[i] := by
      by_contra hnot
      exact h i ⟨hi, k, hki, hk, hgap, (ProfileRow.not_below_iff _ _).1 hnot⟩
    rcases hjk.lt_or_eq with hlt | rfl
    · exact (ih k.val hki k j rfl hlt hj hk).trans hadjacent
    · exact hadjacent

theorem tableValid_iff : TableValid t attenMax ↔
    ∀ (i : Profile) (test : RowTest), ¬ RowFails t attenMax i test := by
  refine ⟨fun h i test hf => ?_, fun h => ⟨?_, fun i hi => ?_, fun i hi => ?_, fun j i hji hj hi => ?_⟩⟩
  · cases test with
    | row0 =>
      obtain ⟨rfl, hdis⟩ := hf
      exact ne_true_of_eq_false hdis h.row0
    | hysteresis => exact absurd (h.hysteresis i hf.1) (Nat.not_le_of_lt hf.2)
    | order =>
      obtain ⟨hi, j, hji, hj, -, hfails⟩ := hf
      exact (ProfileRow.not_below_iff _ _).2 hfails (h.order j i hji hj hi)
    | backoffLimit => exact absurd (h.backoff i hf.1) (Nat.not_le_of_lt hf.2)
  · by_contra hdis
    exact h 0 .row0 ⟨rfl, eq_false_of_ne_true hdis⟩
  · exact Nat.not_lt.1 fun hlow => h i .hysteresis ⟨hi, hlow⟩
  · exact Nat.not_lt.1 fun hhigh => h i .backoffLimit ⟨hi, hhigh⟩
  · exact ordered_of_adjacent (fun i => h i .order) i.val i j rfl hji hj hi

/-- R5: validation passes the valid tables. -/
theorem validate_none_iff : validate t attenMax = none ↔ TableValid t attenMax :=
  validate_eq_none_iff.trans tableValid_iff.symm

end

/-- Settles O19: the examination row by row, and the order that it makes throughout. -/
theorem validationOrdersRows : Obligations.ValidationOrdersRows := by
  unfold Obligations.ValidationOrdersRows
  intro t attenMax
  refine ⟨validate_none_iff, tableValid_iff, fun row test => ⟨validate_eq_some, ?_⟩⟩
  rintro ⟨i, rfl, hfirst⟩
  exact hfirst.validate_eq

end Sys2Proof.Machine
end

section
/-! The law of the profile tables and of the settings (R5, R10, R11, R13, R55, R124, R134, R176), kept by every step;
and every law at reset. -/

namespace Sys2Proof.Machine

/-! ## The settings (R55, R134, R176) -/

/-- R55, R134: the two pairs of settings in order, read by id. -/
theorem Settings.Lawful.of_get {x y : Settings} {id : Nat} {v : Int} (h : x.Lawful) (hv : settingAdmits id v)
    (hget : y.get id = some v) (hother : ∀ j, j ≠ id → y.get j = x.get j)
    (hfade : (y.fadeExit : Int) < y.fadeEnter) (hrsl : y.rslLow < y.rslHigh) : y.Lawful where
  inRange j hj hj' := by
    by_cases hid : j = id
    · exact ⟨v, hid ▸ hget, hid ▸ hv⟩
    · rw [hother j hid]
      exact h.inRange j hj hj'
  fade := Int.ofNat_lt.1 hfade
  rsl := hrsl

/-- R55, R134: a pair of settings stays in order where the one that takes a value passes its check. -/
theorem Settings.put_pair (x : Settings) {id lo hi : Nat} {v a b : Int} (hv : settingAdmits id v) (hne : lo ≠ hi)
    (ha : x.get lo = some a) (hb : x.get hi = some b) (hab : a < b) (hlo : id = lo → v < b) (hhi : id = hi → a < v)
    {a' b' : Int} (ha' : (x.put id v).get lo = some a') (hb' : (x.put id v).get hi = some b') : a' < b' := by
  by_cases h1 : lo = id
  · subst h1
    rw [x.put_get hv] at ha'
    rw [x.put_get_other hv hne.symm, hb] at hb'
    cases ha'; cases hb'
    exact hlo rfl
  rw [x.put_get_other hv h1, ha] at ha'
  cases ha'
  by_cases h2 : hi = id
  · subst h2
    rw [x.put_get hv] at hb'
    cases hb'
    exact hhi rfl
  · rw [x.put_get_other hv h2, hb] at hb'
    cases hb'
    exact hab

/-- R55, R134, R176: a value in range that passes the cross-setting checks leaves the settings lawful. -/
theorem State.put_lawful {s : State} (h : s.settings.Lawful) {id : Nat} {v : Int} (hv : settingAdmits id v)
    (hadmits : s.Admits id v) : (s.settings.put id v).Lawful :=
  h.of_get hv (s.settings.put_get hv) (fun _ hj => s.settings.put_get_other hv hj)
    (s.settings.put_pair (lo := 9) (hi := 8) hv (by decide) rfl rfl (Int.ofNat_lt.2 h.fade) hadmits.fadeExit
      hadmits.fadeEnter rfl rfl)
    (s.settings.put_pair (lo := 27) (hi := 28) hv (by decide) rfl rfl h.rsl hadmits.rslLow hadmits.rslHigh rfl rfl)

/-- R176: the defaults are in range. -/
theorem Settings.default_lawful : Settings.default.Lawful := by
  refine ⟨fun id hlow hhigh => ?_, by decide, by decide⟩
  interval_cases id <;>
    exact ⟨_, rfl, by simp [settingAdmits, settingKind, Settings.default, DivMode.code, AtpcMode.code]⟩

/-! ## The profile tables (R5, R10, R11, R13) -/

/-- The part of the law that is about the Profile Table, with atten_max as it stands. -/
structure ProfileTable.Lawful (t : ProfileTable) (attenMax : Nat) : Prop where
  own        : ∀ p : Profile, inSet t.ownMask p = (t.active[p]).enabled
  valid      : TableValid t.active attenMax
  half0      : t.farHalf0.getLsbD 0 = true
  negotiated : t.negotiated = t.negotiate

theorem State.tableLaw_iff (s : State) :
    s.TableLaw ↔ s.settings.Lawful ∧ s.table.Lawful s.settings.attenMax :=
  ⟨fun ⟨hset, hown, hvalid, hhalf, hneg⟩ => ⟨hset, hown, hvalid, hhalf, hneg⟩,
    fun ⟨hset, hown, hvalid, hhalf, hneg⟩ => ⟨hset, hown, hvalid, hhalf, hneg⟩⟩

/-- R10: the set of the enabled rows. -/
theorem inSet_enabledSet (t : Table) (p : Profile) : inSet (enabledSet t) p = (t[p]).enabled := by
  unfold inSet enabledSet
  rw [BitVec.getLsbD_ofFnLE, dif_pos p.isLt]

namespace ProfileTable.Lawful

variable {t u : ProfileTable} {attenMax : Nat}

/-- The law is about the active table, the masks and N. -/
theorem keep (h : t.Lawful attenMax) (ha : u.active = t.active) (ho : u.ownMask = t.ownMask)
    (h0 : u.farHalf0 = t.farHalf0) (hn : u.negotiated = t.negotiated) (hg : u.negotiate = t.negotiate) :
    u.Lawful attenMax :=
  ⟨by rw [ha, ho]; exact h.own, ha ▸ h.valid, h0 ▸ h.half0, by rw [hn, hg]; exact h.negotiated⟩

/-- R11: the far mask and its marks change, and N is recomputed. -/
theorem renegotiate (h : t.Lawful attenMax) (ha : u.active = t.active) (ho : u.ownMask = t.ownMask)
    (h0 : u.farHalf0.getLsbD 0 = true) : u.renegotiate.Lawful attenMax where
  own := show ∀ p, inSet u.ownMask p = (u.active[p]).enabled by rw [ha, ho]; exact h.own
  valid := show TableValid u.active attenMax from ha ▸ h.valid
  half0 := h0
  negotiated := rfl

/-- R12: the marks are cleared and the halves emptied. -/
theorem clearMarks (h : t.Lawful attenMax) : t.clearMarks.Lawful attenMax :=
  h.renegotiate rfl rfl (show (1#8).getLsbD 0 = true by decide)

/-- R11: a caps byte; profile 0 is stored as a member. -/
theorem takeCaps (h : t.Lawful attenMax) (half : Bool) (byte : BitVec 8) : (t.takeCaps half byte).Lawful attenMax := by
  refine h.renegotiate ?_ ?_ ?_ <;> cases half
  case refine_3.false => simp
  case refine_3.true => exact h.half0
  all_goals rfl

/-- R6, R8, R10: the shadow table, once it has passed validation, becomes the active one. -/
theorem install (h : t.Lawful attenMax) (hv : validate t.shadow attenMax = none) : t.install.Lawful attenMax :=
  ⟨inSet_enabledSet t.shadow, validate_none_iff.1 hv, h.half0, rfl⟩

/-- R124: atten_max takes a value that no enabled row's backoff is above. -/
theorem limit (h : t.Lawful attenMax) {n : Nat} (hn : ∀ p : Profile, (t.active[p]).enabled = true →
    (t.active[p]).backoff ≤ n) : t.Lawful n :=
  ⟨h.own, ⟨h.valid.row0, h.valid.hysteresis, hn, h.valid.order⟩, h.half0, h.negotiated⟩

/-- R2: the tables after a reset. -/
theorem initial (attenMax : Nat) : ProfileTable.initial.Lawful attenMax := by
  have hzero : ProfileTable.initial.Lawful 0 :=
    ⟨by decide +kernel, validate_none_iff.1 (by decide +kernel), rfl, rfl⟩
  exact hzero.limit fun p hp => (hzero.valid.backoff p hp).trans (Nat.zero_le _)

end ProfileTable.Lawful

/-! ## Every step (R5, R10, R11, R13, R55, R124, R134, R176) -/

/-- An operation that leaves the settings alone and keeps the Profile Table lawful keeps the law. -/
theorem State.TableLaw.keep {s t : State} (h : s.TableLaw)
    (htable : s.table.Lawful s.settings.attenMax → t.table.Lawful s.settings.attenMax)
    (hset : t.settings = s.settings := by simp) : t.TableLaw := by
  obtain ⟨hlawful, ht⟩ := s.tableLaw_iff.1 h
  exact t.tableLaw_iff.2 ⟨hset ▸ hlawful, hset ▸ htable ht⟩

/-- An operation that leaves the settings and the Profile Table alone keeps the law. -/
theorem State.TableLaw.same {s t : State} (h : s.TableLaw) (htable : t.table = s.table := by simp)
    (hset : t.settings = s.settings := by simp) : t.TableLaw :=
  h.keep (fun ht => htable ▸ ht) hset

theorem State.TableLaw.reset {s : State} (htable : s.table = .initial) (hset : s.settings = .default) : s.TableLaw :=
  s.tableLaw_iff.2 ⟨hset ▸ Settings.default_lawful, by rw [htable]; exact .initial _⟩

/-- R8: a swap that is taken has passed validation. -/
theorem State.swapReady_valid {s : State} (h : s.swapReady = true) :
    validate s.table.shadow s.settings.attenMax = none := by
  unfold State.swapReady at h
  simp only [Bool.and_eq_true, Option.isNone_iff_eq_none] at h
  exact h.1.2

theorem State.takeSwap_tableLaw {s : State} (hready : s.swapReady = true) (h : s.TableLaw) : s.takeSwap.TableLaw :=
  h.keep fun ht => (ht.install (State.swapReady_valid hready)).keep rfl rfl rfl rfl rfl

theorem State.dropSwap_tableLaw {s : State} (h : s.TableLaw) : s.dropSwap.TableLaw :=
  h.keep fun ht => ht.keep rfl rfl rfl rfl rfl

theorem State.trySwap_tableLaw (s : State) (h : s.TableLaw) : s.trySwap.TableLaw := by
  unfold State.trySwap
  split <;> [exact State.takeSwap_tableLaw ‹_› h; exact h]

theorem State.swapAtEntry_tableLaw (s : State) (h : s.TableLaw) : s.swapAtEntry.TableLaw := by
  unfold State.swapAtEntry
  split
  · exact h
  · split
    · exact State.takeSwap_tableLaw ‹_› h
    · split <;> [exact State.dropSwap_tableLaw h; exact h.keep fun ht => ht.keep rfl rfl rfl rfl rfl]

theorem State.takeFarMask_tableLaw (s : State) (good : Option Metrics) (h : s.TableLaw) :
    (s.takeFarMask good).TableLaw := by
  cases good with
  | none => exact h
  | some m => exact h.keep fun ht => ht.takeCaps m.hcw.capsHalf m.hcw.capsByte

/-- R12, R136: a passage of the link leaves the Profile Table alone, or clears its marks. -/
theorem State.TableLaw.relink {s t : State} (h : s.TableLaw)
    (htable : t.table = s.table ∨ t.table = s.table.clearMarks) (hset : t.settings = s.settings := by simp) :
    t.TableLaw :=
  h.keep (fun ht => by rcases htable with he | he <;> rw [he] <;> [exact ht; exact ht.clearMarks]) hset

theorem State.linkLoss_table (s : State) : s.linkLoss.table = s.table.clearMarks := by
  simp [State.linkLoss, State.enterSync]

theorem State.linkEntry_table (s : State) (good : Option Metrics) :
    (s.linkEntry good).table = s.table ∨ (s.linkEntry good).table = s.table.clearMarks := by
  unfold State.linkEntry
  split
  · split <;> exact .inl rfl
  · split <;> [exact .inl rfl; exact .inl rfl; exact .inl rfl; exact .inl rfl]
  · unfold State.watchLink
    dsimp only
    split <;> [exact .inr (State.linkLoss_table _); exact .inl rfl]
  all_goals exact .inl rfl

theorem State.enterSearch_table (s : State) :
    s.enterSearch.table = s.table ∨ s.enterSearch.table = s.table.clearMarks := by
  unfold State.enterSearch State.searchReached
  split <;> [exact .inr (State.linkLoss_table _); exact .inr rfl; exact .inl rfl; exact .inl rfl]

/-- R124, R176: a value that a setting takes keeps the law. -/
theorem State.putSetting_tableLaw {s : State} (h : s.TableLaw) {id : Nat} {v : Int} (hv : settingAdmits id v)
    (hadmits : s.Admits id v) : (s.putSetting id v).TableLaw := by
  obtain ⟨hset, ht⟩ := s.tableLaw_iff.1 h
  refine (State.tableLaw_iff _).2 ⟨State.put_lawful hset hv hadmits, ht.limit fun p hp => ?_⟩
  have hget (w : Int) (hw : (s.settings.put id v).get 26 = some w) :
      w = (s.settings.put id v).attenMax := (Option.some.inj hw).symm
  show _ ≤ (s.settings.put id v).attenMax
  by_cases hid : id = 26
  · have hvalue := hget v (hid ▸ s.settings.put_get hv)
    have hbound := hadmits.attenMax hid p hp
    omega
  · have hvalue := hget s.settings.attenMax (s.settings.put_get_other hv (Ne.symm hid))
    have hbound := ht.valid.backoff p hp
    omega

theorem State.setValue_tableLaw (s : State) (id : Nat) (v : Int) (h : s.TableLaw) :
    (s.setValue id v).2.TableLaw := by
  cases hk : settingKind id with
  | none =>
    simp only [State.setValue, hk]
    exact h
  | some kind =>
    cases kind with
    | numeric lo hi =>
      obtain ⟨hok, horder⟩ := s.setValue_numeric hk v
      by_cases hadmits : s.Admits id (nearestValue id lo hi v)
      · rw [hok hadmits]
        exact State.putSetting_tableLaw h (nearestValue_admits hk v) hadmits
      · rw [horder hadmits]
        exact h
    | enumeration codes =>
      obtain ⟨hok, hrange⟩ := s.setValue_enumeration hk v
      by_cases hv : 0 ≤ v ∧ v < codes
      · rw [hok hv]
        refine State.putSetting_tableLaw h (by rw [settingAdmits, hk]; exact hv) ?_
        constructor <;> rintro rfl <;> cases hk
      · rw [hrange hv]
        exact h

theorem tableLaw_entryLaw : EntryLaw State.TableLaw Entry.InRange where
  outer _ _ _ _ h := h.same
  clearFresh _ h := h.same
  estimate _ _ _ h := h.same
  trackFade _ _ h := h.same
  runDecision _ _ h := h.same
  signal _ _ h := h.same
  powerReceive _ _ h := h.same
  powerTransmit _ _ h := h.same
  monitorEntry _ _ h := h.same
  takeFarMask s good h := s.takeFarMask_tableLaw good h
  swapAtEntry s h := s.swapAtEntry_tableLaw h
  linkEntry s good h := h.relink (s.linkEntry_table good)

theorem tableLaw_stepLaw : StepLaw State.TableLaw where
  toEntryLaw := tableLaw_entryLaw
  commands _ _ h := h.same
  intake _ _ _ _ _ h := h.same
  silence _ _ _ h := h.same
  lock _ _ _ _ _ h := h.same
  enterResync _ _ h := h.same
  enterSearch s _ h := h.relink s.enterSearch_table
  trySwap s h := s.trySwap_tableLaw h
  fixEcho _ _ h := h.same
  slotSwitches _ _ h := h.same
  slotFinish _ _ _ _ h := h.same
  slotIdle _ _ _ _ h := h.same
  reply _ _ _ h := h.same
  setValue s id v h := s.setValue_tableLaw id v h
  writeShadow _ _ _ h := h.keep fun ht => ht.keep rfl rfl rfl rfl rfl
  acceptSwap _ _ h := h.keep fun ht => ht.keep rfl rfl rfl rfl rfl
  installSwap _ _ hv h := h.keep fun ht => ht.install hv
  startLink _ _ h := h.relink (.inr rfl)
  stopLink _ _ h := h.same
  setForce _ _ h := h.same
  addPilot _ h := h.same
  readFades _ _ h := h.same
  dropSwap _ h := State.dropSwap_tableLaw h
  expireAnswer _ _ h := h.same
  missSwitch _ _ h := h.same
  endBackoff _ _ h := h.same
  expireAcq _ _ h := h.relink (.inr rfl)
  acqTimer _ _ _ h := h.same
  expirePilot _ h := h.same
  endSecond _ h := h.same
  millis _ _ h := h.same
  holdReset _ _ h := h.keep fun _ => .initial _
  restartNow _ _ h := h.keep (fun ht => ht.clearMarks.keep rfl rfl rfl rfl rfl) rfl
  powerOn _ _ _ _ := .reset rfl rfl
  release _ _ _ _ _ _ := .reset rfl rfl

/-- Settles O54, by the packaged induction over the machine. -/
theorem tableLawIsKept : Obligations.TableLawIsKept := by
  unfold Obligations.TableLawIsKept
  exact fun s t h he => tableLaw_stepLaw.step s t h he

/-! ## The state at reset -/

theorem State.reset_linkLaw : State.reset.LinkLaw :=
  ⟨by decide, by decide, by decide, by decide, by decide, by decide⟩

/-- Settles O4: each law by what its blocks hold after a reset. -/
theorem resetMeetsEveryLaw : Obligations.ResetMeetsEveryLaw := by
  unfold Obligations.ResetMeetsEveryLaw
  have hhost : State.reset.HostLaw := State.reset.hostLaw_iff.2
    ⟨⟨(HostMove.started _ _).sound (HostLink.initial_sound 0), nofun⟩, nofun⟩
  exact ⟨hhost, .reset rfl rfl, Estimator.initial_lawful, ⟨trivial, nofun⟩, .initial, RequestLane.initial_lawful,
    .initial _, State.reset_linkLaw, Monitor.start_lawful 0 nofun (Nat.zero_le 32), trivial, nofun⟩

end Sys2Proof.Machine
end

section
/-! WRITE_PROFILE and READ_PROFILE: the payload, the checks in their order, the row written, and the bytes of a row
(R3, R4, R173, R182, R183). -/

namespace Sys2Proof.Machine

/-! ## The codes of the two enumerations (R183) -/

theorem modulationOf_code (m : Modulation) : modulationOf m.code = some m := by cases m <;> rfl

theorem modulationOf_none {n : Nat} (h : 9 < n) : modulationOf n = none := by
  unfold modulationOf
  split <;> first | rfl | omega

theorem exists_modulation {n : Nat} (h : n ≤ 9) : ∃ m : Modulation, m.code = n := by
  interval_cases n
  exacts [⟨.qpsk, rfl⟩, ⟨.qam16, rfl⟩, ⟨.qam32, rfl⟩, ⟨.qam64, rfl⟩, ⟨.qam128, rfl⟩, ⟨.qam256, rfl⟩, ⟨.qam512, rfl⟩,
    ⟨.qam1024, rfl⟩, ⟨.qam2048, rfl⟩, ⟨.qam4096, rfl⟩]

theorem codeRateOf_code (c : CodeRate) : codeRateOf c.code = some c := by cases c <;> rfl

theorem codeRateOf_none {n : Nat} (h : 4 < n) : codeRateOf n = none := by
  unfold codeRateOf
  split <;> first | rfl | omega

theorem exists_codeRate {n : Nat} (h : n ≤ 4) : ∃ c : CodeRate, c.code = n := by
  interval_cases n
  exacts [⟨.half, rfl⟩, ⟨.twoThirds, rfl⟩, ⟨.threeQuarters, rfl⟩, ⟨.fiveSixths, rfl⟩, ⟨.nineTenths, rfl⟩]

/-! ## WRITE_PROFILE (R3) -/

/-- R182: the payload of a WRITE_PROFILE. -/
def writePayload (i en mo cr : Byte) (cap td tu : BitVec 16) (bo : Byte) : List Byte :=
  [i, en, mo, cr] ++ le16 cap ++ le16 td ++ le16 tu ++ [bo]

section
variable {i en mo cr bo : Byte} {cap td tu : BitVec 16} {s : State}

/-- R182: the three words of the payload are read where they stand. -/
theorem writePayload_words : wordAt (writePayload i en mo cr cap td tu bo) 4 = cap ∧
    wordAt (writePayload i en mo cr cap td tu bo) 6 = td ∧ wordAt (writePayload i en mo cr cap td tu bo) 8 = tu :=
  ⟨wordAt_le16 [i, en, mo, cr] (le16 td ++ le16 tu ++ [bo]) cap,
    wordAt_le16 ([i, en, mo, cr] ++ le16 cap) (le16 tu ++ [bo]) td,
    wordAt_le16 ([i, en, mo, cr] ++ le16 cap ++ le16 td) [bo] tu⟩

/-- R3: the row of a payload. -/
theorem rowOf_writePayload : rowOf (writePayload i en mo cr cap td tu bo) =
    match modulationOf mo.toNat, codeRateOf cr.toNat with
    | some m, some c => some { enabled := en.getLsbD 0, modulation := m, codeRate := c, capacity := cap.toNat
                               tDown := td.toNat, tUp := tu.toNat, backoff := bo.toNat }
    | _, _ => none := by
  obtain ⟨hcap, htd, htu⟩ := writePayload_words (i := i) (en := en) (mo := mo) (cr := cr) (cap := cap) (td := td)
    (tu := tu) (bo := bo)
  rw [rowOf, hcap, htd, htu]
  rfl

theorem rowOf_none (h : 9 < mo.toNat ∨ 4 < cr.toNat) : rowOf (writePayload i en mo cr cap td tu bo) = none := by
  rw [rowOf_writePayload]
  rcases h with h | h
  · rw [modulationOf_none h]
  · rw [codeRateOf_none h]
    split <;> [contradiction; rfl]

theorem rowOf_some (hmo : mo.toNat ≤ 9) (hcr : cr.toNat ≤ 4) : ∃ r : ProfileRow,
    rowOf (writePayload i en mo cr cap td tu bo) = some r ∧ r.enabled = en.getLsbD 0 ∧ r.modulation.code = mo.toNat ∧
      r.codeRate.code = cr.toNat ∧ r.capacity = cap.toNat ∧ r.tDown = td.toNat ∧ r.tUp = tu.toNat ∧
      r.backoff = bo.toNat := by
  obtain ⟨m, hm⟩ := exists_modulation hmo
  obtain ⟨c, hc⟩ := exists_codeRate hcr
  refine ⟨{ enabled := en.getLsbD 0, modulation := m, codeRate := c, capacity := cap.toNat, tDown := td.toNat
            tUp := tu.toNat, backoff := bo.toNat }, ?_, rfl, hm, hc, rfl, rfl, rfl, rfl⟩
  rw [rowOf_writePayload, ← hm, ← hc, modulationOf_code, codeRateOf_code]

theorem rowInRange_iff (r : ProfileRow) : rowInRange r = true ↔
    r.tDown ≤ 450 ∧ r.tUp ≤ 450 ∧ r.backoff ≤ 20 ∧ r.capacity ≤ 1023 := by
  simp [rowInRange, and_assoc]

/-- R3: a payload whose index or enumerations are out of range. -/
theorem serveWriteProfile_unread (h : 15 < i.toNat ∨ 9 < mo.toNat ∨ 4 < cr.toNat) :
    serveWriteProfile (writePayload i en mo cr cap td tu bo) s = refusal .outOfRange s := by
  unfold serveWriteProfile
  rcases h with h | h
  · rw [show byteAt (writePayload i en mo cr cap td tu bo) 0 = i from rfl, profileOf_of_lt h]
  · rw [rowOf_none h]
    split <;> [contradiction; rfl]

/-- R3: the checks of a row that the payload carries, in their order. -/
theorem serveWriteProfile_read {p : Profile} {r : ProfileRow} (hp : i.toNat = p.val)
    (hr : rowOf (writePayload i en mo cr cap td tu bo) = some r) :
    serveWriteProfile (writePayload i en mo cr cap td tu bo) s =
      if !rowInRange r then refusal .outOfRange s
      else if r.enabled ∧ r.capacity = 0 then refusal .outOfRange s
      else if s.table.pendingSwap.isSome then refusal .busy s
      else done (s.writeShadow p r) := by
  unfold serveWriteProfile
  rw [show byteAt (writePayload i en mo cr cap td tu bo) 0 = i from rfl, profileOf_of_toNat hp, hr]

end

theorem exec_writeProfile {s : State} {m : Message} (h : s.Ready m) (hkind : m.kind = 0x04#8)
    (hlen : m.payload.length = 11) :
    exec .writeProfile s = .next ((serveWriteProfile m.payload s.dropRequest).answers m) :=
  congrArg Host.Outcome.next (h.take_serves hkind hlen)

/-- R3: the row is written into its place, and every other row stays. -/
theorem shadow_set_getElem (t : Table) (i p : Profile) (r : ProfileRow) :
    (t.set i r)[p] = if p = i then r else t[p] := by
  simp only [Fin.getElem_fin, Vector.getElem_set, Fin.ext_iff, eq_comm]

/-- Settles O17: the payload read back, and the checks in their order. -/
theorem writeProfileAnswers : Obligations.WriteProfileAnswers := by
  unfold Obligations.WriteProfileAnswers
  intro s m i en mo cr cap td tu bo hready hkind hpayload outOfRange
  change m.payload = writePayload i en mo cr cap td tu bo at hpayload
  rw [exec_writeProfile hready hkind (congrArg List.length hpayload), hpayload]
  by_cases hread : 15 < i.toNat ∨ 9 < mo.toNat ∨ 4 < cr.toNat
  · rw [serveWriteProfile_unread hread]
    have hout : outOfRange := by
      rcases hread with h | h | h
      exacts [.inl h, .inr (.inl h), .inr (.inr (.inl h))]
    exact ⟨fun _ => rfl, fun hin => absurd hout hin, fun hin => absurd hout hin⟩
  obtain ⟨row, hrow, hen, hmod, hrate, hcap, htd, htu, hbo⟩ := rowOf_some (i := i) (en := en) (mo := mo) (cr := cr) (cap := cap) (td := td)
    (tu := tu) (bo := bo) (by omega) (by omega)
  let p : Profile := ⟨i.toNat, by omega⟩
  rw [serveWriteProfile_read (p := p) rfl hrow]
  have hzero : cap = 0#16 ↔ cap.toNat = 0 := BitVec.toNat_eq
  have hrange : outOfRange ↔ ¬ (row.tDown ≤ 450 ∧ row.tUp ≤ 450 ∧ row.backoff ≤ 20 ∧ row.capacity ≤ 1023) ∨
      (row.enabled = true ∧ row.capacity = 0) := by
    simp only [outOfRange, hzero, hen, hcap, htd, htu, hbo]
    by_cases hused : en.getLsbD 0 = true ∧ cap.toNat = 0
    · exact iff_of_true (by simp only [hused, and_self, or_true]) (.inr hused)
    · simp only [hused, or_false]
      omega
  simp only [Bool.not_eq_true', ← Bool.not_eq_true, rowInRange_iff]
  refine ⟨fun hout => ?_, fun hin hbusy => ?_, fun hin hfree => ?_⟩
  · rcases hrange.1 hout with hbad | hbad
    · rw [if_pos hbad]
      rfl
    · rw [if_pos hbad, ite_self]
      rfl
  all_goals
    obtain ⟨hgood, hused⟩ := not_or.1 (mt hrange.2 hin)
    rw [if_neg hgood, if_neg hused]
  · rw [if_pos (show s.dropRequest.table.pendingSwap.isSome = true from hbusy)]
    rfl
  · rw [if_neg (by simp [hfree])]
    refine ⟨row, s.table.shadow.set p row, hen, hmod, hrate, hcap, htd, htu, hbo, fun q => ?_, rfl⟩
    rw [shadow_set_getElem]
    simp only [p, Fin.ext_iff]

/-! ## READ_PROFILE (R4) -/

theorem exec_readProfile {s : State} {m : Message} (h : s.Ready m) (hkind : m.kind = 0x05#8)
    {selector i : Byte} (hpayload : m.payload = [selector, i]) :
    exec .readProfile s = .next ((serveReadProfile [selector, i] s.dropRequest).answers m) := by
  have htake := h.take_serves (f := serveReadProfile) hkind (congrArg List.length hpayload)
  rw [hpayload] at htake
  exact congrArg Host.Outcome.next htake

/-- R4: a selector or an index out of range. -/
theorem serveReadProfile_refused {selector i : Byte} (h : 1 < selector.toNat ∨ 15 < i.toNat) (s : State) :
    serveReadProfile [selector, i] s = refusal .outOfRange s := by
  have hselector : byteAt [selector, i] 0 = selector := rfl
  have hindex : byteAt [selector, i] 1 = i := rfl
  unfold serveReadProfile
  rw [hselector, hindex]
  rcases h with h | h
  · split <;> [omega; omega; rfl]
  · rw [profileOf_of_lt h]
    split <;> first | contradiction | rfl

theorem serveReadProfile_active {i : Byte} {p : Profile} (h : i.toNat = p.val) (s : State) :
    serveReadProfile [0#8, i] s = reading (s.table.active[p]).bytes s := by
  have hp : profileOf (byteAt [0#8, i] 1) = some p := profileOf_of_toNat h
  unfold serveReadProfile
  rw [hp]
  rfl

theorem serveReadProfile_shadow {i : Byte} {p : Profile} (h : i.toNat = p.val) (s : State) :
    serveReadProfile [1#8, i] s = reading (s.table.shadow[p]).bytes s := by
  have hp : profileOf (byteAt [1#8, i] 1) = some p := profileOf_of_toNat h
  unfold serveReadProfile
  rw [hp]
  rfl

/-- R182: the seven fields of a row. -/
theorem ProfileRow.bytes_eq (r : ProfileRow) : r.bytes = (if r.enabled then [1#8] else [0#8]) ++
    [BitVec.ofNat 8 r.modulation.code] ++ [BitVec.ofNat 8 r.codeRate.code] ++ le16 (BitVec.ofNat 16 r.capacity) ++
    le16 (BitVec.ofNat 16 r.tDown) ++ le16 (BitVec.ofNat 16 r.tUp) ++ [BitVec.ofNat 8 r.backoff] := by
  unfold ProfileRow.bytes leBool
  cases r.enabled <;> rfl

/-- Settles O18: the row of either table, and the two refusals. -/
theorem readProfileAnswers : Obligations.ReadProfileAnswers := by
  unfold Obligations.ReadProfileAnswers
  intro s m selector i hready hkind hpayload n8 n16 fields
  have hfields (x : ProfileRow) : x.bytes = fields x := x.bytes_eq
  rw [exec_readProfile hready hkind hpayload]
  refine ⟨fun p hp hsel => ?_, fun p hp hsel => ?_, fun hbad => ?_⟩
  · rw [hsel, serveReadProfile_active hp, ← hfields]
    rfl
  · rw [hsel, serveReadProfile_shadow hp, ← hfields]
    rfl
  · rw [serveReadProfile_refused hbad]
    rfl

end Sys2Proof.Machine
end

section
/-! The swap of the tables: SWAP_TABLE in every link state, a swap that is taken with its whole effect, and a pending
swap at an entry and at the row SWAP_TIMEOUT (R5 to R10, R13, R123, R173). -/

namespace Sys2Proof.Machine

section
variable {s : State} {m : Message}

/-! ## When a swap is ready (R6 to R8) -/

theorem State.shadowInUse_iff (s : State) : s.shadowInUse = true ↔
    (s.table.shadow[s.tx.active]).enabled = false ∨ (s.table.shadow[s.hop.r]).enabled = false := by
  simp [State.shadowInUse]

/-- R8: what a pending swap waits for. -/
def State.SwapFits (s : State) : Prop :=
  TableValid s.table.shadow s.settings.attenMax ∧ (s.link.state = .run →
    (s.hop.lane.state = .steady ∨ s.hop.lane.state = .backoff) ∧ s.tx.staged = none ∧
    (s.table.shadow[s.tx.active]).enabled = true ∧ (s.table.shadow[s.hop.r]).enabled = true)

theorem State.swapReady_iff (s : State) :
    s.swapReady = true ↔ s.table.pendingSwap.isSome = true ∧ s.SwapFits := by
  unfold State.swapReady State.SwapFits State.quietLanes State.shadowInUse
  by_cases hrun : s.link.state = .run
  · simp [hrun, validate_none_iff, and_assoc, and_left_comm]
  · simp [hrun, validate_none_iff]

/-- R8: the readiness of a swap rests on the tables, the link, the lanes and the transmit record. -/
theorem State.swapReady_congr {u : State} (htable : u.table = s.table) (hset : u.settings = s.settings)
    (hlink : u.link = s.link) (hrun : s.link.state = .run → u.hop.lane = s.hop.lane ∧ u.hop.r = s.hop.r ∧
      u.tx.staged = s.tx.staged ∧ u.tx.active = s.tx.active) : u.swapReady = s.swapReady := by
  rw [Bool.eq_iff_iff, State.swapReady_iff, State.swapReady_iff, State.SwapFits, State.SwapFits, htable, hset, hlink]
  by_cases hr : s.link.state = .run
  · obtain ⟨hlane, hr', hstaged, hactive⟩ := hrun hr
    simp only [hlane, hr', hstaged, hactive]
  · simp [hr]

/-! ## A swap that is taken (R6, R8, R10, R13, R123) -/

/-- R123: the floor under the rows of the shadow table. -/
def State.shadowFloor (s : State) : Nat :=
  match s.tx.staged with
  | none => (s.table.shadow[s.tx.active]).backoff
  | some g => max (s.table.shadow[s.tx.active]).backoff (s.table.shadow[g.profile]).backoff

/-- R6, R10, R13: the Profile Table with the shadow table active. -/
def ProfileTable.installed (t : ProfileTable) : ProfileTable :=
  { t with
    active := t.shadow, ownMask := enabledSet t.shadow
    negotiated := if t.mark0 && t.mark1 then enabledSet t.shadow &&& (t.farHalf1 ++ t.farHalf0) else 1#16 }

theorem State.installSwap_eq (s : State) : s.installSwap = { s with
    table := s.table.installed, power := { s.power with a := max s.power.a s.shadowFloor } } := rfl

theorem State.takeSwap_eq (s : State) : s.takeSwap = State.raise .tableSwapped { s with
    table := { s.table.installed with pendingSwap := none }
    power := { s.power with a := max s.power.a s.shadowFloor } } := by
  rw [State.takeSwap, State.installSwap_eq]

theorem State.trySwap_ready (h : s.swapReady = true) : s.trySwap = s.takeSwap := if_pos h

theorem State.trySwap_unready (h : s.swapReady ≠ true) : s.trySwap = s := if_neg h

/-- R8: with no swap pending there is nothing to try. -/
theorem State.trySwap_none (h : s.table.pendingSwap = none) : s.trySwap = s :=
  State.trySwap_unready fun hready => by
    have hpending := (s.swapReady_iff.1 hready).1
    simp [h] at hpending

theorem State.swapAtEntry_none (h : s.table.pendingSwap = none) : s.swapAtEntry = s := by
  unfold State.swapAtEntry
  rw [h]

/-! R8, R9: a pending swap at an entry. -/

section
variable {n : Nat}

theorem State.swapAtEntry_ready (h : s.table.pendingSwap = some n) (hready : s.swapReady = true) :
    s.swapAtEntry = s.takeSwap := by
  unfold State.swapAtEntry
  rw [h]
  exact if_pos hready

theorem State.swapAtEntry_counts (h : s.table.pendingSwap = some n) (hready : s.swapReady ≠ true) (hn : n + 1 < 256) :
    s.swapAtEntry = { s with table := { s.table with pendingSwap := some (n + 1) } } := by
  unfold State.swapAtEntry
  rw [h]
  exact (if_neg hready).trans (if_neg (Nat.not_le_of_lt hn))

theorem State.swapAtEntry_drops (h : s.table.pendingSwap = some n) (hready : s.swapReady ≠ true) (hn : 256 ≤ n + 1) :
    s.swapAtEntry = s.dropSwap := by
  unfold State.swapAtEntry
  rw [h]
  exact (if_neg hready).trans (if_pos hn)

/-- R9: the row SWAP_TIMEOUT has its event where the attempt would fail and the count would reach 256. -/
theorem State.swapExpires_iff (h : s.table.pendingSwap = some n) :
    s.swapExpires = true ↔ 256 ≤ n + 1 ∧ s.swapReady ≠ true := by
  simp [State.swapExpires, h, Config.swapEntryLimit]

end

theorem exec_swapTimeout (h : s.Running) :
    exec .swapTimeout s = .next (if s.swapExpires then s.dropSwap else s) :=
  congrArg Host.Outcome.next (State.unlessHeld_running h _)

/-! ## SWAP_TABLE (R6, R7) -/

theorem exec_swapTable (h : s.Ready m) (hkind : m.kind = 0x06#8) (hpayload : m.payload = []) :
    exec .swapTable s = .next ((serveSwapTable s.dropRequest).answers m) :=
  congrArg Host.Outcome.next (h.takeBare_eq hkind hpayload serveSwapTable)

/-- R6, R7: a table that fails, by the codes of its first failure. -/
theorem serveSwapTable_inconsistent {row : Profile} {test : RowTest}
    (h : FirstFailure s.table.shadow s.settings.attenMax row test) : serveSwapTable s =
      { status := .tableInconsistent, payload := le8 row.val ++ le8 test.code, state := s } := by
  unfold serveSwapTable
  rw [h.validate_eq]

/-- R6, R7: the checks of a table that passes. -/
theorem serveSwapTable_valid (h : TableValid s.table.shadow s.settings.attenMax) : serveSwapTable s =
    if s.link.state = .run then
      if s.shadowInUse then refusal .inUse s
      else if s.table.pendingSwap.isSome then refusal .busy s
      else { status := .accepted, payload := [],
             state := { s with table := { s.table with pendingSwap := some 0 } } }
    else if s.table.pendingSwap.isSome then refusal .busy s
    else done s.installSwap := by
  unfold serveSwapTable
  rw [validate_none_iff.2 h]

/-- R6, R7, R183: the refusal of a table that fails, with its row and its test. -/
theorem exec_swapTable_inconsistent (h : s.Ready m) (hkind : m.kind = 0x06#8) (hpayload : m.payload = [])
    {row : Profile} {test : RowTest} (hfirst : FirstFailure s.table.shadow s.settings.attenMax row test) :
    exec .swapTable s = .next (s.answered m 7#8 [BitVec.ofNat 8 row.val, match test with
      | .row0 => 0#8 | .hysteresis => 1#8 | .order => 2#8 | .backoffLimit => 3#8]) := by
  rw [exec_swapTable h hkind hpayload, serveSwapTable_inconsistent (s := s.dropRequest) hfirst]
  cases test <;> rfl

end

/-- Settles O20: the first failure, or the table installed. -/
theorem swapOutsideRun : Obligations.SwapOutsideRun := by
  unfold Obligations.SwapOutsideRun
  intro s m hready hkind hpayload hrun
  refine ⟨fun row test hfirst => ?_, fun hvalid hbusy => ?_, fun hvalid hfree => ?_⟩
  · exact (exec_swapTable_inconsistent hready hkind hpayload hfirst).trans (by cases test <;> rfl)
  all_goals
    rw [exec_swapTable hready hkind hpayload, serveSwapTable_valid (s := s.dropRequest) hvalid,
      if_neg (show s.dropRequest.link.state ≠ .run from hrun)]
  · rw [if_pos (show s.dropRequest.table.pendingSwap.isSome = true from hbusy)]
    rfl
  · rw [if_neg (by simp [hfree]), State.installSwap_eq]
    refine ⟨enabledSet s.table.shadow, max s.power.a s.shadowFloor, inSet_enabledSet s.table.shadow, ?_, rfl⟩
    unfold State.shadowFloor
    cases s.tx.staged <;> rfl

/-- Settles O21: the first failure, or the checks in their order. -/
theorem swapInRun : Obligations.SwapInRun := by
  unfold Obligations.SwapInRun
  intro s m hready hkind hpayload hrun inUse
  refine ⟨fun row test hfirst => ?_, fun hvalid huse => ?_, fun hvalid huse hbusy => ?_, fun hvalid huse hfree => ?_⟩
  · exact (exec_swapTable_inconsistent hready hkind hpayload hfirst).trans (by cases test <;> rfl)
  all_goals
    have hinUse : s.dropRequest.shadowInUse = true ↔ inUse := s.dropRequest.shadowInUse_iff
    rw [exec_swapTable hready hkind hpayload, serveSwapTable_valid (s := s.dropRequest) hvalid,
      if_pos (show s.dropRequest.link.state = .run from hrun)]
  · rw [if_pos (hinUse.2 huse)]
    rfl
  all_goals rw [if_neg (mt hinUse.1 huse)]
  · rw [if_pos (show s.dropRequest.table.pendingSwap.isSome = true from hbusy)]
    rfl
  · rw [if_neg (by simp [hfree])]
    rfl

end Sys2Proof.Machine
end

section
/-! The RESET line asserted, with the ring of closed bins it leaves (R2, R30, R147, R151, R168, R171, R178). -/

namespace Sys2Proof.Machine

/-- Members added to the newest of a list push out its oldest. -/
theorem newest_append {α : Type} (n : Nat) (l k : List α) : newest n (newest n l ++ k) = newest n (l ++ k) := by
  unfold newest
  rw [← List.drop_append_of_le_length (by omega), List.drop_drop, List.length_drop, List.length_append]
  congr 1
  omega

/-- R166, R168: a bin with the seconds of the pending window that are its own committed to it. -/
def Monitor.withWaiting (m : Monitor) (b : Bin) : Bin := b.withSeconds (m.window.filter fun p => p.bin == b.number)

/-- R168, R171: the bins that assertion of the RESET line closes, in the order of their numbers. -/
def Monitor.lastBins (m : Monitor) : List Bin :=
  let last := { m.withWaiting m.current with truncated := true }
  match m.earlier with
  | none => [last]
  | some b => [m.withWaiting b, last]

theorem Monitor.lastBins_alone {m : Monitor} (h : m.earlier = none) :
    m.lastBins = [{ m.withWaiting m.current with truncated := true }] := by
  unfold Monitor.lastBins
  rw [h]

theorem Monitor.lastBins_both {m : Monitor} {b : Bin} (h : m.earlier = some b) :
    m.lastBins = [m.withWaiting b, { m.withWaiting m.current with truncated := true }] := by
  unfold Monitor.lastBins
  rw [h]

/-- R171: the ring of the closed bins after the assertion. -/
theorem Monitor.resetLine_closed (m : Monitor) :
    m.resetLine.closed = (m.emptied.commitAll m.window false).1.closeOpenBins.closed := rfl

/-- R168, R171: the seconds that wait close the earlier bin; the current bin is closed as truncated. -/
theorem Monitor.Lawful.resetLine_closed {m : Monitor} (h : m.Lawful) :
    m.resetLine.closed = newest 32 (m.closed ++ m.lastBins) := by
  obtain ⟨hwaits, -⟩ := m.lawful_iff.1 h
  rw [Monitor.resetLine_closed]
  rcases hwaits.split with ⟨he, hbin, -⟩ | ⟨b, old, new, he, hwindow, hne, hold, hnew, hlen, -, -⟩
  · have hall : m.window.filter (fun p => p.bin == m.current.number) = m.window :=
      List.filter_eq_self.2 fun p hp => beq_iff_eq.2 (hbin p hp)
    rw [Monitor.commitAll_alone (m := m.emptied) he, Monitor.lastBins_alone he, Monitor.withWaiting, hall,
      ← Bin.commitAll_own, ← appendClosed_eq h.ring]
    simp only [Monitor.closeOpenBins, Monitor.emptied, he]
  · obtain ⟨-, -, hother⟩ := h.earlier b he
    have hearlier : m.window.filter (fun p => p.bin == b.number) = old := by
      rw [hwindow, List.filter_append, List.filter_eq_self.2 fun p hp => beq_iff_eq.2 (hold p hp),
        List.filter_eq_nil_iff.2 fun p hp => by rw [hnew p hp, beq_iff_eq]; exact hother.symm, List.append_nil]
    have hcurrent : m.window.filter (fun p => p.bin == m.current.number) = new := by
      rw [hwindow, List.filter_append, List.filter_eq_self.2 fun p hp => beq_iff_eq.2 (hnew p hp),
        List.filter_eq_nil_iff.2 fun p hp => by rw [hold p hp, beq_iff_eq]; exact hother, List.nil_append]
    rw [Monitor.lastBins_both he, Monitor.withWaiting, Monitor.withWaiting, hearlier, hcurrent, hwindow,
      Monitor.commitAll_both (m := m.emptied) he hne hold hlen, ← Bin.commitAll_own, ← Bin.commitAll_own]
    have hring : m.emptied.closed.length ≤ 32 := h.ring
    have hclosed := appendClosed_length m.emptied.closed (b.commitAll false old) hring
    simp only [Monitor.closeOpenBins]
    rw [appendClosed_eq hclosed, appendClosed_eq hring, newest_append, List.append_assoc]
    rfl

/-- Settles O7: the blocks that the line acts on, and the bins it closes. -/
theorem resetLineAssertHolds : Obligations.ResetLineAssertHolds := by
  unfold Obligations.ResetLineAssertHolds
  intro s hs
  refine ⟨s.monitor.resetLine.closed, ?_, fun h => ?_⟩
  · have hattn : attnLevel 0#22 s.host.enabled = false := by simp [attnLevel]
    refine congrArg Host.Outcome.next ((State.unlessHeld_running hs _).trans ?_)
    rw [State.holdReset, HostLink.setFlags, hattn]
    rfl
  · rw [h.resetLine_closed, Monitor.lastBins]
    cases s.monitor.earlier <;> rfl

end Sys2Proof.Machine
end

section
/-! The passages of the link, item by item: the acquisition timer's end, an entry in each link state, and the caps byte
(R11, R133, R139, R141, R142, R144, R145, R146). -/

namespace Sys2Proof.Machine

section
variable {s : State} {m : Metrics}

/-! ## Expiry of the acquisition timer (R142) -/

theorem exec_acqTimeout (hs : s.Running) (htimer : s.link.acqTimer.isSome)
    (hlink : s.link.state = .sync ∨ s.link.state = .caps) : exec .acqTimeout s = .next s.expireAcqTimer :=
  congrArg Host.Outcome.next ((State.unlessHeld_running hs _).trans (if_pos ⟨htimer, hlink⟩))

/-- R142: SYNC is entered afresh, with the timer loaded again. -/
theorem State.expireAcqTimer_eq (s : State) : s.expireAcqTimer = State.raise .acqTimeout { s.atSync with
    link := { s.link with state := .sync, acqTimer := some s.settings.acqTimeout } } := by
  rw [State.expireAcqTimer, State.enterSync_eq]
  rfl

/-! ## An entry in SYNC and in CAPS (R139, R141) -/

theorem State.linkEntry_sync (h : s.link.state = .sync) : s.linkEntry (some m) =
    if s.table.otherMark m.hcw.capsHalf then { s with link := { s.link with state := .caps } } else s := by
  simp [State.linkEntry, h]

theorem State.linkEntry_caps_runs (h : s.link.state = .caps) (hphase : m.hcw.phase = .caps ∨ m.hcw.phase = .run) :
    s.linkEntry (some m) = s.enterRun := by
  rcases hphase with hphase | hphase <;> simp [State.linkEntry, h, hphase]

theorem State.linkEntry_caps_stays (h : s.link.state = .caps) (hphase : m.hcw.phase = .sync ∨ m.hcw.phase = .halt) :
    s.linkEntry (some m) = s := by
  rcases hphase with hphase | hphase <;> simp [State.linkEntry, h, hphase]

/-- R141: without a good header SYNC and CAPS stay. -/
theorem State.linkEntry_blank (h : s.link.state = .sync ∨ s.link.state = .caps) : s.linkEntry none = s := by
  rcases h with h | h <;> simp [State.linkEntry, h]

theorem State.linkEntry_config (h : s.link.state = .config) (good : Option Metrics) : s.linkEntry good = s := by
  simp [State.linkEntry, h]

/-! ## The two watches (R144, R145) -/

theorem nextFarWatch_some (m : Metrics) (n : Nat) :
    nextFarWatch (some m) n = if m.hcw.phase = .sync ∨ m.hcw.phase = .halt then n + 1 else 0 := by
  cases hphase : m.hcw.phase <;> simp [nextFarWatch, hphase]

theorem State.linkEntry_run (h : s.link.state = .run) (good : Option Metrics) :
    s.linkEntry good = s.watchLink good := by
  simp [State.linkEntry, h]

end

/-- R144, R145: the state with both counts taken. -/
def State.watched (s : State) (good : Option Metrics) : State :=
  { s with link := { s.link with
      farWatch := nextFarWatch good s.link.farWatch, missing := nextMissing good s.link.missing } }

/-- R144, R145: short of both limits the counts stand, and at either the link is lost. -/
theorem State.watchLink_cases (s : State) (good : Option Metrics) :
    ((s.watched good).link.farWatch < 16 → (s.watched good).link.missing < 64 → s.watchLink good = s.watched good) ∧
    (16 ≤ (s.watched good).link.farWatch ∨ 64 ≤ (s.watched good).link.missing →
      s.watchLink good = (s.watched good).linkLoss) :=
  ⟨fun hfar hmissing => if_neg (not_or.2 ⟨Nat.not_le_of_lt hfar, Nat.not_le_of_lt hmissing⟩), fun hlost => if_pos hlost⟩

/-- Settles O40: the timer, the entries state by state, the caps byte, and the watches. -/
theorem linkPassages : Obligations.LinkPassages := by
  unfold Obligations.LinkPassages
  refine ⟨fun s hs htimer hlink => ?_, fun s m hsync => ?_, fun s m hcaps => ?_, fun s => ?_, fun s => ?_,
    fun s good hrun => ?_⟩
  · rw [exec_acqTimeout hs htimer hlink, State.expireAcqTimer_eq]
    rfl
  · rw [State.linkEntry_sync hsync]
    exact ⟨fun hother => if_pos hother, fun hother => if_neg (ne_true_of_eq_false hother)⟩
  · refine ⟨fun hphase => ?_, State.linkEntry_caps_stays hcaps⟩
    rw [State.linkEntry_caps_runs hcaps hphase]
    rfl
  · exact ⟨State.linkEntry_blank, State.linkEntry_config⟩
  · refine ⟨rfl, fun m => ⟨fun hhalf => ?_, fun hhalf => ?_⟩⟩
    · simp [State.takeFarMask, ProfileTable.takeCaps, ProfileTable.renegotiate, ProfileTable.negotiate,
        ProfileTable.farMask, hhalf]
    · simp [State.takeFarMask, ProfileTable.takeCaps, ProfileTable.renegotiate, ProfileTable.negotiate,
        ProfileTable.farMask, hhalf]
  · intro far missing counted
    have hfar : far = nextFarWatch good s.link.farWatch := by
      cases good <;> [rfl; exact (nextFarWatch_some _ _).symm]
    have hmissing : missing = nextMissing good s.link.missing := by cases good <;> rfl
    have hcounted : counted = s.watched good := by simp only [counted, hfar, hmissing, State.watched]
    obtain ⟨hstays, hlost⟩ := s.watchLink_cases good
    rw [State.linkEntry_run hrun, hcounted, hfar, hmissing]
    exact ⟨hstays, fun h => by rw [hlost h]; exact State.linkLoss_losesLink _⟩

end Sys2Proof.Machine
end

section
/-! The operations of a slot, one by one: what the Host Link Unit makes of it, steps 1 to 3, the pilot timer, and the
TXLIM limit (R102, R107 to R110, R117, R118, R130 to R132, R177, R180). -/

namespace Sys2Proof.Machine

/-! ## The Host Link Unit within a slot (R177, R180) -/

/-- R180: the number of the last report triggered: the last number taken, and the reports that wait after it. -/
def HostLink.reportsDue (h : HostLink) : BitVec 16 := h.watch.report + BitVec.ofNat 16 h.watch.triggered.length

/-- R177, R180: a change of the Host Link Unit that no switch has made: no flag is cleared, TX_SWITCH stays as it was,
and no report is triggered. -/
structure HostLink.NoSwitch (h h' : HostLink) : Prop where
  raised   : ∀ f : EventFlag, h.raised.getLsbD f.num = true → h'.raised.getLsbD f.num = true
  txSwitch : h'.raised.getLsbD EventFlag.txSwitch.num = h.raised.getLsbD EventFlag.txSwitch.num
  due      : h'.reportsDue = h.reportsDue

namespace HostLink.NoSwitch

variable {a b c : HostLink} {f : EventFlag}

theorem of_eq (hraised : b.raised = a.raised) (hdue : b.reportsDue = a.reportsDue) : a.NoSwitch b :=
  ⟨fun _ h => hraised ▸ h, by rw [hraised], hdue⟩

theorem refl (a : HostLink) : a.NoSwitch a := .of_eq rfl rfl

theorem trans (hab : a.NoSwitch b) (hbc : b.NoSwitch c) : a.NoSwitch c :=
  ⟨fun f h => hbc.raised f (hab.raised f h), hbc.txSwitch.trans hab.txSwitch, hbc.due.trans hab.due⟩

theorem raise (a : HostLink) (hf : f ≠ .txSwitch) : a.NoSwitch (a.raise f) where
  raised g hg := by rw [HostLink.raise_getLsbD, hg, Bool.true_or]
  txSwitch := by
    rw [HostLink.raise_getLsbD, decide_eq_false fun h => hf (EventFlag.num_inj.1 h).symm, Bool.or_false]
  due := by rw [HostLink.reportsDue, HostLink.raise_watch, HostLink.reportsDue]

theorem raiseIf (s : State) (c : Bool) (hf : f ≠ .txSwitch) : s.host.NoSwitch (s.raiseIf c f).host := by
  cases c <;> [exact .refl _; exact .raise _ hf]

/-- R180: a report that is assembled takes its number, and waits no longer. -/
theorem assembleReport {s : State} {t : WatchTrigger} {rest : List WatchTrigger}
    (h : s.host.watch.triggered = t :: rest) : s.host.NoSwitch (s.assembleReport t).host := by
  unfold State.assembleReport
  refine .trans (.of_eq ?_ ?_) (.raiseIf { s with host := _ } _ (by decide))
  · simp
  · simp only [HostLink.reportsDue, HostLink.notice_watch, h, List.drop_one, List.tail_cons, List.length_cons]
    rw [BitVec.add_assoc, BitVec.ofNat_add, BitVec.add_comm 1#16]

theorem assembleReports (ts : List WatchTrigger) : ∀ s : State, s.host.watch.triggered = ts →
    s.host.NoSwitch s.assembleReports.host := by
  induction ts with
  | nil =>
    intro s h
    rw [s.assembleReports_nil h]
    exact .refl _
  | cons t ts ih =>
    intro s h
    rw [s.assembleReports_cons h]
    exact .trans (.assembleReport h) (ih _ (by rw [s.assembleReport_triggered, h]; rfl))

theorem reportInSlot (s : State) (point : SlotPoint) : s.host.NoSwitch (s.reportInSlot point).host := by
  rcases s.reportInSlot_cases point with h | h <;> rw [h] <;> [exact .refl _; exact .assembleReports _ s rfl]

theorem trySwap (s : State) : s.host.NoSwitch s.trySwap.host := by
  unfold State.trySwap
  split <;> [exact .raise _ (by decide); exact .refl _]

end HostLink.NoSwitch

/-- R121, R177, R180: a switch raises TX_SWITCH and triggers a report in mode ON_SWITCH. -/
def HostLink.switched (h : HostLink) : HostLink :=
  { h.raise .txSwitch with
    watch := if h.watch.mode = .onSwitch then h.watch.trigger .txChange else h.watch }

theorem State.txSwitched_eq (s : State) : s.txSwitched = { s with host := s.host.switched } := by
  simp [State.txSwitched, State.watchSwitch, HostLink.switched, State.raise]

theorem HostLink.switched_mode (h : HostLink) : h.switched.watch.mode = h.watch.mode := by
  simp only [HostLink.switched, WatchState.trigger]
  split <;> rfl

theorem HostLink.switched_due (h : HostLink) : h.switched.reportsDue =
    h.reportsDue + BitVec.ofNat 16 (if h.watch.mode = .onSwitch then 1 else 0) := by
  simp only [HostLink.switched, HostLink.reportsDue]
  split
  · rw [WatchState.trigger, List.length_append, List.length_singleton, BitVec.ofNat_add, BitVec.add_assoc]
  · exact (BitVec.add_zero _).symm

/-- R121, R180: what `k` switches have made of the Host Link Unit. -/
theorem HostLink.switched_iterate (h : HostLink) (k : Nat) :
    (0 < k → (HostLink.switched^[k] h).raised.getLsbD EventFlag.txSwitch.num = true) ∧
    (HostLink.switched^[k] h).watch.mode = h.watch.mode ∧
    (HostLink.switched^[k] h).reportsDue =
      h.reportsDue + BitVec.ofNat 16 (if h.watch.mode = .onSwitch then k else 0) := by
  induction k with
  | zero => exact ⟨nofun, rfl, by simp⟩
  | succ k ih =>
    obtain ⟨-, hmode, hdue⟩ := ih
    rw [Function.iterate_succ_apply']
    refine ⟨fun _ => ?_, (HostLink.switched_mode _).trans hmode, ?_⟩
    · show ((HostLink.switched^[k] h).raise .txSwitch).raised.getLsbD _ = true
      rw [HostLink.raise_getLsbD]
      simp
    · rw [HostLink.switched_due, hdue, hmode, BitVec.add_assoc, ← BitVec.ofNat_add]
      congr 2
      split <;> rfl

/-! ## Steps 1 to 3 (R102, R108, R109, R110) -/

/-- The state with another active profile, another staged switch and another answer, after `k` switches. -/
def State.switchedTo (s : State) (active : Profile) (staged : Option StagedSwitch) (answer : AnswerLane) (k : Nat) :
    State :=
  { s with
    tx := { s.tx with active := active, staged := staged }
    hop := { s.hop with answer := answer }
    host := HostLink.switched^[k] s.host }

theorem State.switchedTo_switchedTo (s : State) (a b : Profile) (o r : Option StagedSwitch) (x y : AnswerLane)
    (k l : Nat) : (s.switchedTo a o x k).switchedTo b r y l = s.switchedTo b r y (l + k) := by
  simp only [State.switchedTo, Function.iterate_add_apply]

theorem State.switchedTo_self (s : State) : s.switchedTo s.tx.active s.tx.staged s.hop.answer 0 = s := rfl

section
variable {s : State} {n : ProfileSet} {g : StagedSwitch} {p : Profile}

/-! Step 1. -/

theorem State.cancelStaged_none (h : s.tx.staged = none) : s.cancelStaged n = s := by
  unfold State.cancelStaged
  rw [h]

theorem State.cancelStaged_member (h : s.tx.staged = some g) (hg : inSet n g.profile = true) :
    s.cancelStaged n = s := by
  unfold State.cancelStaged
  rw [h]
  exact if_pos hg

theorem State.cancelStaged_cancels (h : s.tx.staged = some g) (hg : ¬ inSet n g.profile = true) :
    s.cancelStaged n = s.switchedTo s.tx.active none (s.hop.answer.follow g .decline 2#4) 0 := by
  unfold State.cancelStaged
  rw [h]
  exact if_neg hg

/-! Step 2. -/

theorem State.dropActive_member (h : inSet n s.tx.active = true) : s.dropActive n = s := if_pos h

theorem State.settleDrop_other (h : ∀ g, s.tx.staged = some g → g.profile ≠ p) : s.settleDrop p = s := by
  unfold State.settleDrop
  cases hg : s.tx.staged with
  | none => rfl
  | some g => exact if_neg (h g hg)

/-- R109: a switch staged for the profile of the drop is gone, as though executed. -/
theorem State.settleDrop_same (h : s.tx.staged = some g) (hp : g.profile = p) :
    s.settleDrop p = s.switchedTo s.tx.active none (s.hop.answer.follow g .agree 0#4) 0 := by
  unfold State.settleDrop
  rw [h]
  exact if_pos hp

section
variable (ha : ¬ inSet n s.tx.active = true) (hp : highestBelow n s.tx.active = p)
include ha hp

theorem State.dropActive_eq :
    s.dropActive n = ((s.switchedTo p s.tx.staged s.hop.answer 0).settleDrop p).txSwitched := by
  subst hp
  exact if_neg ha

theorem State.dropActive_leaves (h : ∀ g, s.tx.staged = some g → g.profile ≠ p) :
    s.dropActive n = s.switchedTo p s.tx.staged s.hop.answer 1 := by
  rw [State.dropActive_eq ha hp, State.settleDrop_other (s := s.switchedTo p _ _ 0) h, State.txSwitched_eq]
  rfl

theorem State.dropActive_settles (h : s.tx.staged = some g) (hg : g.profile = p) :
    s.dropActive n = s.switchedTo p none (s.hop.answer.follow g .agree 0#4) 1 := by
  rw [State.dropActive_eq ha hp, State.settleDrop_same (s := s.switchedTo p _ _ 0) h hg,
    State.txSwitched_eq]
  rfl

end

/-! Step 3. -/

theorem State.countStaged_none (h : s.tx.staged = none) : s.countStaged = s := by
  unfold State.countStaged
  rw [h]

/-- R110: a countdown above 1 falls, and the AGREE shows it. -/
theorem State.countStaged_counts (h : s.tx.staged = some g) (hc : 2 ≤ g.countdown) :
    s.countStaged = s.switchedTo s.tx.active (some { g with countdown := g.countdown - 1 })
      (s.hop.answer.follow g .agree (BitVec.ofNat 4 (g.countdown - 1))) 0 := by
  unfold State.countStaged
  rw [h]
  exact if_neg (Nat.not_le_of_lt hc)

theorem State.countStaged_executes (h : s.tx.staged = some g) (hc : g.countdown ≤ 1) :
    s.countStaged = s.switchedTo g.profile none (s.hop.answer.follow g .agree 0#4) 1 := by
  unfold State.countStaged
  rw [h]
  exact (if_pos hc).trans (State.txSwitched_eq _)

/-! The three steps together, with N read once (R107). -/

/-- With nothing staged and the active profile in N, the three steps do nothing. -/
theorem State.slotSwitches_keeps (ha : inSet s.table.negotiated s.tx.active = true) (h : s.tx.staged = none) :
    s.slotSwitches = s := by
  rw [State.slotSwitches, State.cancelStaged_none h, State.dropActive_member ha, State.countStaged_none h]

theorem State.slotSwitches_cancels (ha : inSet s.table.negotiated s.tx.active = true) (h : s.tx.staged = some g)
    (hg : ¬ inSet s.table.negotiated g.profile = true) :
    s.slotSwitches = s.switchedTo s.tx.active none (s.hop.answer.follow g .decline 2#4) 0 := by
  rw [State.slotSwitches, State.cancelStaged_cancels h hg,
    State.dropActive_member (s := s.switchedTo s.tx.active none _ 0) ha, State.countStaged_none rfl]

theorem State.slotSwitches_counts (ha : inSet s.table.negotiated s.tx.active = true) (h : s.tx.staged = some g)
    (hg : inSet s.table.negotiated g.profile = true) : s.slotSwitches = s.countStaged := by
  rw [State.slotSwitches, State.cancelStaged_member h hg, State.dropActive_member ha]

section
variable (ha : ¬ inSet s.table.negotiated s.tx.active = true)
include ha

theorem State.slotSwitches_drops (hp : highestBelow s.table.negotiated s.tx.active = p) (h : s.tx.staged = none) :
    s.slotSwitches = s.switchedTo p none s.hop.answer 1 := by
  rw [State.slotSwitches, State.cancelStaged_none h, State.dropActive_leaves ha hp (by simp [h]), h, State.countStaged_none rfl]

theorem State.slotSwitches_drops_cancels (hp : highestBelow s.table.negotiated s.tx.active = p)
    (h : s.tx.staged = some g) (hg : ¬ inSet s.table.negotiated g.profile = true) :
    s.slotSwitches = s.switchedTo p none (s.hop.answer.follow g .decline 2#4) 1 := by
  rw [State.slotSwitches, State.cancelStaged_cancels h hg,
    State.dropActive_leaves (s := s.switchedTo s.tx.active none _ 0) ha hp (by simp [State.switchedTo]),
    State.switchedTo_switchedTo, State.countStaged_none rfl]
  rfl

theorem State.slotSwitches_drops_settles (hp : highestBelow s.table.negotiated s.tx.active = g.profile)
    (h : s.tx.staged = some g) (hg : inSet s.table.negotiated g.profile = true) :
    s.slotSwitches = s.switchedTo g.profile none (s.hop.answer.follow g .agree 0#4) 1 := by
  rw [State.slotSwitches, State.cancelStaged_member h hg, State.dropActive_settles ha hp h rfl,
    State.countStaged_none rfl]

theorem State.slotSwitches_drops_counts (hp : highestBelow s.table.negotiated s.tx.active = p)
    (h : s.tx.staged = some g) (hg : inSet s.table.negotiated g.profile = true) (hne : g.profile ≠ p) :
    s.slotSwitches = (s.switchedTo p (some g) s.hop.answer 1).countStaged := by
  rw [State.slotSwitches, State.cancelStaged_member h hg, State.dropActive_leaves ha hp (by simpa [h] using hne), h]

end

/-! ## The pilot timer (R117, R118) -/

/-- R117: the pilot timer as step 4 of a slot finds it. -/
def State.slotTimer (s : State) : Option Nat :=
  if s.tx.pilotReload then loadPilotTimer s.settings.pilotInterval else s.tx.pilotTimer

/-- R117: the load after a SET of pilot_interval, and step 4. -/
def State.slotTimed (s : State) : State := s.reloadPilotTimer.advancePilotTimer

/-- R117, R118: the timer ends: it is loaded again, and a pilot is added to those owed. -/
theorem State.slotTimed_ends {k : Nat} (h : s.slotTimer = some k) (hk : k ≤ 1) :
    s.slotTimed = State.raiseIf (decide (8 ≤ s.tx.owed + 1)) .pilotOverdue { s with tx := { s.tx with
      owed := min 8 (s.tx.owed + 1), pilotTimer := loadPilotTimer s.settings.pilotInterval, pilotReload := false } } := by
  have htimer : s.reloadPilotTimer.tx.pilotTimer = some k := h
  rw [State.slotTimed, State.advancePilotTimer, htimer]
  exact if_pos hk

/-- R117: the timer falls, or stands still while it is stopped. -/
theorem State.slotTimed_runs (h : ∀ k, s.slotTimer = some k → 2 ≤ k) :
    s.slotTimed = { s with tx := { s.tx with pilotTimer := s.slotTimer.map (· - 1), pilotReload := false } } := by
  have hreload : s.reloadPilotTimer = { s with tx := { s.tx with
    pilotTimer := s.slotTimer, pilotReload := false } } := rfl
  rw [State.slotTimed, hreload, State.advancePilotTimer]
  cases htimer : s.slotTimer with
  | none => rfl
  | some k => exact if_neg (Nat.not_le_of_lt (h k htimer))

/-- R117: the timer ends at the slot, or it does not. -/
theorem State.slotTimer_cases (s : State) :
    (∃ k, s.slotTimer = some k ∧ k ≤ 1) ∨ ∀ k, s.slotTimer = some k → 2 ≤ k := by
  by_cases h : ∃ k, s.slotTimer = some k ∧ k ≤ 1
  · exact .inl h
  · refine .inr fun k hk => ?_
    by_contra hlow
    exact h ⟨k, hk, by omega⟩

/-! ## The TXLIM limit (R130, R131, R132) -/

/-- R130: the sample of a level of TXLIM. -/
def limitSample (txlim : Bool) : LimitSample := if txlim then .asserted else .released

/-- R130: the second of two asserted samples. -/
def PowerControl.LimitComes (p : PowerControl) (txlim : Bool) : Prop :=
  txlim = true ∧ p.lastSample = some .asserted ∧ p.limit = .released

/-- R130: the second of two released samples. -/
def PowerControl.LimitGoes (p : PowerControl) (txlim : Bool) : Prop :=
  txlim = false ∧ p.lastSample = some .released ∧ p.limit = .limited

/-- R131: the limit comes into effect. -/
def PowerControl.limited (p : PowerControl) : PowerControl :=
  { p with limit := .limited, lastSample := some .asserted, heldA := some p.a }

/-- R132: the limit goes; in RUN A takes the value that held A had. -/
def PowerControl.unlimited (p : PowerControl) (run : Bool) : PowerControl :=
  { p with
    limit := .released, lastSample := some .released, heldA := none
    a := if run then p.heldA.getD p.a else p.a }

theorem PowerControl.limitChanges_iff (p : PowerControl) (txlim : Bool) :
    p.limitChanges (limitSample txlim) = true ↔ p.LimitComes txlim ∨ p.LimitGoes txlim := by
  cases txlim <;> simp [PowerControl.limitChanges, limitSample, PowerControl.LimitComes, PowerControl.LimitGoes]

theorem PowerControl.LimitComes.not_goes {q : PowerControl} {txlim : Bool} (h : q.LimitComes txlim) :
    ¬ q.LimitGoes txlim := fun hgoes => by cases h.1.symm.trans hgoes.1

section
variable {txlim : Bool}

theorem State.limitWork_comes_run (h : s.power.LimitComes txlim) (hrun : s.link.state = .run) :
    s.limitWork txlim = State.raise .txlimChange (State.removeStagedUpshift { s with power := s.power.limited }) := by
  obtain ⟨rfl, hlast, hlimit⟩ := h
  simp [State.limitWork, PowerControl.limitChanges, PowerControl.sample, PowerControl.limited, State.raiseIf,
    State.raise, hlast, hlimit, hrun]

theorem State.limitWork_comes_outside (h : s.power.LimitComes txlim) (hrun : s.link.state ≠ .run) :
    s.limitWork txlim = State.raise .txlimChange { s with power := s.power.limited } := by
  obtain ⟨rfl, hlast, hlimit⟩ := h
  simp [State.limitWork, PowerControl.limitChanges, PowerControl.sample, PowerControl.limited, State.raiseIf,
    State.raise, hlast, hlimit, hrun]

theorem State.limitWork_goes (h : s.power.LimitGoes txlim) : s.limitWork txlim =
    State.raise .txlimChange { s with power := s.power.unlimited (s.link.state == .run) } := by
  obtain ⟨rfl, hlast, hlimit⟩ := h
  simp [State.limitWork, PowerControl.limitChanges, PowerControl.sample, PowerControl.unlimited, State.raiseIf,
    State.raise, hlast, hlimit]

theorem State.limitWork_stands (hcomes : ¬ s.power.LimitComes txlim) (hgoes : ¬ s.power.LimitGoes txlim) :
    s.limitWork txlim = { s with power := { s.power with lastSample := some (limitSample txlim) } } := by
  have hchanges : s.power.limitChanges (limitSample txlim) = false :=
    eq_false_of_ne_true fun h => (s.power.limitChanges_iff txlim).1 h |>.elim hcomes hgoes
  have hsample : s.power.sample (limitSample txlim) = { s.power with lastSample := some (limitSample txlim) } := by
    simp only [PowerControl.sample, hchanges]
    rfl
  unfold State.limitWork
  rw [show (if txlim then LimitSample.asserted else .released) = limitSample txlim from rfl]
  simp only [hchanges, hsample]
  rfl

/-- R131: a staged switch to a higher profile is removed. -/
theorem State.removeStagedUpshift_removes (h : s.tx.staged = some g) (hg : s.tx.active < g.profile) :
    s.removeStagedUpshift = s.switchedTo s.tx.active none (s.hop.answer.follow g .decline 4#4) 0 := by
  unfold State.removeStagedUpshift
  rw [h]
  exact if_pos hg

theorem State.removeStagedUpshift_keeps (h : ∀ g, s.tx.staged = some g → ¬ s.tx.active < g.profile) :
    s.removeStagedUpshift = s := by
  unfold State.removeStagedUpshift
  cases hg : s.tx.staged with
  | none => rfl
  | some g => exact if_neg (h g hg)

end

end

end Sys2Proof.Machine
end

section
/-! A slot as a whole: the TXLIM work, steps 4 to 6 in RUN, and the place at which a pending swap is tried (R8, R107, R117
to R119, R128 to R133, R161). -/

namespace Sys2Proof.Machine

/-! ## The TXLIM work of a slot (R130, R131, R132) -/

/-- R130, R131, R132: `q` is the Power Control Unit's state `p` after the sample of a slot, in RUN or outside it. -/
structure PowerControl.Follows (p : PowerControl) (txlim run : Bool) (q : PowerControl) : Prop where
  comes  : p.LimitComes txlim → q = p.limited
  goes   : p.LimitGoes txlim → q = p.unlimited run
  stands : ¬ p.LimitComes txlim → ¬ p.LimitGoes txlim → q = { p with lastSample := some (limitSample txlim) }

/-- R131: a switch to a higher profile is staged, in RUN, as the limit comes into effect. -/
def State.LimitRemoves (s : State) (txlim : Bool) (g : StagedSwitch) : Prop :=
  s.link.state = .run ∧ s.power.LimitComes txlim ∧ s.tx.staged = some g ∧ s.tx.active < g.profile

/-- R130, R131, R132: what the TXLIM work of a slot makes of `s`. -/
structure State.LimitFollows (s : State) (txlim : Bool) (t : State) : Prop where
  rest    : t = { s with
    tx := { s.tx with staged := t.tx.staged }, hop := { s.hop with answer := t.hop.answer }
    power := t.power, host := t.host }
  host    : s.host.NoSwitch t.host
  power   : s.power.Follows txlim (s.link.state == .run) t.power
  flag    : s.power.LimitComes txlim ∨ s.power.LimitGoes txlim → t.hasFlag .txlimChange = true
  kept    : (∀ g, ¬ s.LimitRemoves txlim g) → t.tx.staged = s.tx.staged ∧ t.hop.answer = s.hop.answer
  removed : ∀ g, s.LimitRemoves txlim g → t.tx.staged = none ∧ t.hop.answer = s.hop.answer.follow g .decline 4#4

section
variable {s : State} {txlim : Bool}

theorem PowerControl.follows_comes {p : PowerControl} (h : p.LimitComes txlim) (run : Bool) :
    p.Follows txlim run p.limited :=
  ⟨fun _ => rfl, fun hgoes => absurd hgoes h.not_goes, fun hnot => absurd h hnot⟩

theorem PowerControl.follows_goes {p : PowerControl} (h : p.LimitGoes txlim) (run : Bool) :
    p.Follows txlim run (p.unlimited run) :=
  ⟨fun hcomes => absurd h hcomes.not_goes, fun _ => rfl, fun _ hnot => absurd h hnot⟩

/-- The TXLIM work that changes the Power Control Unit alone, and raises TXLIM_CHANGE. -/
theorem State.LimitFollows.of_raise {p : PowerControl} (hp : s.power.Follows txlim (s.link.state == .run) p)
    (hstaged : ∀ g, ¬ s.LimitRemoves txlim g) :
    s.LimitFollows txlim (State.raise .txlimChange { s with power := p }) where
  rest := rfl
  host := .raise _ (by decide)
  power := hp
  flag _ := by simp [State.hasFlag_raise]
  kept _ := ⟨rfl, rfl⟩
  removed g hg := absurd hg (hstaged g)

theorem State.limitWork_follows (s : State) (txlim : Bool) : s.LimitFollows txlim (s.limitWork txlim) := by
  by_cases hcomes : s.power.LimitComes txlim
  · by_cases hremoves : ∃ g, s.LimitRemoves txlim g
    · obtain ⟨g, hg⟩ := hremoves
      have ⟨hrun, _, hstaged, hup⟩ := hg
      rw [State.limitWork_comes_run hcomes hrun,
        State.removeStagedUpshift_removes (s := { s with power := s.power.limited }) hstaged hup]
      refine ⟨rfl, .raise _ (by decide), PowerControl.follows_comes hcomes _, fun _ => by simp [State.hasFlag_raise],
        fun hnot => absurd hg (hnot g), fun k hk => ?_⟩
      obtain ⟨-, -, hk, -⟩ := hk
      cases hstaged.symm.trans hk
      exact ⟨rfl, rfl⟩
    · have hnone : ∀ g, ¬ s.LimitRemoves txlim g := not_exists.1 hremoves
      have hfollows := State.LimitFollows.of_raise (PowerControl.follows_comes hcomes (s.link.state == .run)) hnone
      by_cases hrun : s.link.state = .run
      · rwa [State.limitWork_comes_run hcomes hrun, State.removeStagedUpshift_keeps]
        exact fun g hg hup => hnone g ⟨hrun, hcomes, hg, hup⟩
      · rwa [State.limitWork_comes_outside hcomes hrun]
  · have hnone : ∀ g, ¬ s.LimitRemoves txlim g := fun g hg => hcomes hg.2.1
    by_cases hgoes : s.power.LimitGoes txlim
    · rw [State.limitWork_goes hgoes]
      exact .of_raise (PowerControl.follows_goes hgoes _) hnone
    · rw [State.limitWork_stands hcomes hgoes]
      exact ⟨rfl, .refl _, ⟨fun h => absurd h hcomes, fun h => absurd h hgoes, fun _ _ => rfl⟩,
        fun h => h.elim (fun h => absurd h hcomes) fun h => absurd h hgoes, fun _ => ⟨rfl, rfl⟩,
        fun g hg => absurd hg (hnone g)⟩

end

/-! ## Steps 4 to 6 of a slot in RUN (R112, R117, R119, R128, R129) -/

/-- R119: whether the frame of the slot is a pilot. -/
def State.slotPilot (s : State) : Bool := s.slotTimed.pilotDue

/-- R117, R119: the state after steps 4 and 5. -/
def State.slotPaid (s : State) : State := s.slotTimed.payPilot s.slotPilot

/-- R130, R131, R132: the state after the TXLIM work at step 6. -/
def State.slotLimited (s : State) (txlim : Bool) : State := s.slotPaid.limitWork txlim

/-- R128, R129: A and the mode as step 6 sets them, after the TXLIM work. -/
def State.powered (s : State) : State :=
  { s with power := { s.power with a := s.slotAtten, slotMode := s.settings.atpcMode } }

theorem State.slotFinish_eq (s : State) (echo : FrameNo) (txlim : Bool) : s.slotFinish echo txlim =
    (s.slotLimited txlim).powered.send ((s.slotLimited txlim).powered.runDescriptor echo s.slotPilot) := rfl

/-- R117, R118, R119: what steps 4 and 5 make of `s`: `owed` pilots are owed after step 4, and one of them may be
paid. -/
structure State.Pays (s : State) (owed : Nat) (t : State) : Prop where
  rest  : t = { s with
    tx := { s.tx with
      owed := if s.slotPilot then owed - 1 else owed, pilotTimer := t.tx.pilotTimer, pilotReload := false }
    host := t.host }
  host  : s.host.NoSwitch t.host
  ends  : (∃ k, s.slotTimer = some k ∧ k ≤ 1) → owed = min 8 (s.tx.owed + 1) ∧
    t.tx.pilotTimer = loadPilotTimer s.settings.pilotInterval ∧
    (8 ≤ s.tx.owed + 1 → t.hasFlag .pilotOverdue = true)
  runs  : (¬ ∃ k, s.slotTimer = some k ∧ k ≤ 1) → owed = s.tx.owed ∧ t.tx.pilotTimer = s.slotTimer.map (· - 1)
  pilot : s.slotPilot = true ↔ 1 ≤ owed ∧ s.tx.staged = none ∧ s.hop.far.fade = false ∧ s.tx.lastPilot = false

theorem State.pilotDue_iff (s : State) : s.pilotDue = true ↔
    1 ≤ s.tx.owed ∧ s.tx.staged = none ∧ s.hop.far.fade = false ∧ s.tx.lastPilot = false := by
  simp [State.pilotDue, and_assoc]

theorem State.slotPaid_pays (s : State) : ∃ owed, s.Pays owed s.slotPaid := by
  have hpilot : s.slotPilot = true ↔ _ := s.slotTimed.pilotDue_iff
  rcases s.slotTimer_cases with ⟨k, hk, hlow⟩ | hruns
  · have hends := State.slotTimed_ends hk hlow
    rw [hends] at hpilot
    refine ⟨min 8 (s.tx.owed + 1), ?_, ?_, fun _ => ⟨rfl, ?_, fun hfull => ?_⟩, fun hnot => absurd ⟨k, hk, hlow⟩ hnot,
      hpilot⟩ <;> rw [State.slotPaid, hends]
    · rfl
    · exact .raiseIf { s with tx := _ } _ (by decide)
    · rfl
    · have hflag := State.hasFlag_raiseIf s (decide (8 ≤ s.tx.owed + 1)) .pilotOverdue .pilotOverdue
      rw [decide_eq_true hfull] at hflag
      rw [decide_eq_true hfull]
      exact hflag.trans (by simp)
  · have htimed := State.slotTimed_runs hruns
    rw [htimed] at hpilot
    have hnot : ¬ ∃ k, s.slotTimer = some k ∧ k ≤ 1 := fun ⟨k, hk, hlow⟩ => by
      have := hruns k hk
      omega
    refine ⟨s.tx.owed, ?_, ?_, fun hends => absurd hends hnot, fun _ => ⟨rfl, ?_⟩, hpilot⟩ <;>
      rw [State.slotPaid, htimed]
    · rfl
    · exact .refl _
    · rfl

/-! ## The parts of the state within a slot (R8, R107) -/

/-- R107, R180: within a slot `t` is `s`, but for the expected number, the counter of the free values, and the Host Link
Unit, of which no switch makes anything. -/
structure State.Carries (s : State) (expected : FrameNo) (t : State) : Prop where
  rest : t = { s with
    tx := { s.tx with expectedSlot := expected }, host := t.host, freeCount := t.freeCount }
  host : s.host.NoSwitch t.host

/-- R107: the expected number is set and the counter of the free values has moved on. -/
def State.slotBegun (s : State) (expected : FrameNo) : State :=
  { s with tx := { s.tx with expectedSlot := expected }, freeCount := s.freeCount + 1 }

@[simp] theorem State.slotBegun_frame (s : State) (expected : FrameNo) :
    (s.slotBegun expected).table = s.table ∧ (s.slotBegun expected).settings = s.settings ∧
    (s.slotBegun expected).link = s.link ∧ (s.slotBegun expected).host = s.host := ⟨rfl, rfl, rfl, rfl⟩

theorem State.slotBegun_carries (s : State) (expected : FrameNo) : s.Carries expected (s.slotBegun expected) :=
  ⟨rfl, .refl _⟩

theorem State.reportInSlot_eq (s : State) (point : SlotPoint) :
    s.reportInSlot point = { s with host := (s.reportInSlot point).host } := by
  rcases s.reportInSlot_cases point with h | h
  · rw [h]
  · rw [h]
    exact s.assembleReports_eq

theorem State.Carries.report {s t : State} {e : FrameNo} (h : s.Carries e t) (point : SlotPoint) :
    s.Carries e (t.reportInSlot point) := by
  refine ⟨?_, h.host.trans (.reportInSlot t point)⟩
  have hcount : (t.reportInSlot point).freeCount = t.freeCount := by rw [State.reportInSlot_eq]
  rw [hcount]
  exact (t.reportInSlot_eq point).trans
    (congrArg (fun u : State => { u with host := (t.reportInSlot point).host }) h.rest)

/-! The steps of a slot read neither of the two. -/

section
variable (s : State) (e : FrameNo)

theorem State.trySwap_slotBegun : (s.slotBegun e).trySwap = s.trySwap.slotBegun e := by
  by_cases h : s.swapReady = true
  · rw [State.trySwap_ready h, State.trySwap_ready (s := s.slotBegun e) h]
    rfl
  · rw [State.trySwap_unready h, State.trySwap_unready (s := s.slotBegun e) h]

theorem State.cancelStaged_slotBegun (n : ProfileSet) :
    (s.slotBegun e).cancelStaged n = (s.cancelStaged n).slotBegun e := by
  cases hg : s.tx.staged with
  | none => rw [State.cancelStaged_none hg, State.cancelStaged_none (s := s.slotBegun e) hg]
  | some g =>
    by_cases hin : inSet n g.profile = true
    · rw [State.cancelStaged_member hg hin, State.cancelStaged_member (s := s.slotBegun e) hg hin]
    · rw [State.cancelStaged_cancels hg hin, State.cancelStaged_cancels (s := s.slotBegun e) hg hin]
      rfl

theorem State.dropActive_slotBegun (n : ProfileSet) :
    (s.slotBegun e).dropActive n = (s.dropActive n).slotBegun e := by
  by_cases ha : inSet n s.tx.active = true
  · rw [State.dropActive_member ha, State.dropActive_member (s := s.slotBegun e) ha]
  by_cases hsame : ∃ g, s.tx.staged = some g ∧ g.profile = highestBelow n s.tx.active
  · obtain ⟨g, hg, hp⟩ := hsame
    rw [State.dropActive_settles ha rfl hg hp, State.dropActive_settles (s := s.slotBegun e) ha rfl hg hp]
    rfl
  · have hother : ∀ g, s.tx.staged = some g → g.profile ≠ highestBelow n s.tx.active :=
      fun g hg hp => hsame ⟨g, hg, hp⟩
    rw [State.dropActive_leaves ha rfl hother, State.dropActive_leaves (s := s.slotBegun e) ha rfl hother]
    rfl

theorem State.countStaged_slotBegun : (s.slotBegun e).countStaged = s.countStaged.slotBegun e := by
  cases hg : s.tx.staged with
  | none => rw [State.countStaged_none hg, State.countStaged_none (s := s.slotBegun e) hg]
  | some g =>
    rcases Nat.lt_or_ge 1 g.countdown with hc | hc
    · rw [State.countStaged_counts hg hc, State.countStaged_counts (s := s.slotBegun e) hg hc]
      rfl
    · rw [State.countStaged_executes hg hc, State.countStaged_executes (s := s.slotBegun e) hg hc]
      rfl

theorem State.slotSwitches_slotBegun : (s.slotBegun e).slotSwitches = s.slotSwitches.slotBegun e := by
  rw [State.slotSwitches, State.slotSwitches, State.cancelStaged_slotBegun, State.dropActive_slotBegun,
    State.countStaged_slotBegun]
  rfl

end

/-! ## The place of the attempt at a pending swap (R8) -/

section
variable (s : State) (x : SlotRecord) (txlim : Bool)

theorem State.trySwapAt_here (place : SwapPlace) : s.trySwapAt place place = s.trySwap := if_pos rfl

theorem State.trySwapAt_elsewhere {place here : SwapPlace} (h : place ≠ here) : s.trySwapAt place here = s := if_neg h

theorem State.fixEcho_countFree : s.countFree.fixEcho x = s.slotBegun (s.slotEcho x + 1#16) := rfl

theorem State.fixEcho_trySwap_countFree :
    s.countFree.trySwap.fixEcho x = s.trySwap.slotBegun (s.slotEcho x + 1#16) := by
  by_cases h : s.swapReady = true
  · rw [State.trySwap_ready h, State.trySwap_ready (s := s.countFree) h]
    rfl
  · rw [State.trySwap_unready h, State.trySwap_unready (s := s.countFree) h]
    rfl

theorem State.swapPlace_none (h : s.table.pendingSwap = none) : s.swapPlace = .before := by
  simp [State.swapPlace, h]

/-- R107, R180: what is left of a slot in RUN once its steps 1 to 3 are made and its attempt at a swap is over. -/
def State.slotRest (s : State) (echo : FrameNo) (txlim : Bool) : State :=
  ((s.reportInSlot .attempted).slotFinish echo txlim).reportInSlot .filled

/-- R8, R107: a slot in RUN, with the attempt before its steps, after them, or between step 3 and step 4. -/
theorem State.slotEvent_run (hrun : s.link.state = .run) :
    s.slotEvent x txlim = ((s.trySwap.slotSwitches.slotBegun (s.slotEcho x + 1#16)).reportInSlot .switched).slotRest
      (s.slotEcho x) txlim ∨
    s.table.pendingSwap ≠ none ∧ (s.slotEvent x txlim =
      (((s.slotSwitches.slotBegun (s.slotEcho x + 1#16)).reportInSlot .switched).slotRest (s.slotEcho x) txlim).trySwap ∨
    s.slotEvent x txlim =
      ((s.slotSwitches.slotBegun (s.slotEcho x + 1#16)).reportInSlot .switched).trySwap.slotRest (s.slotEcho x) txlim) := by
  have hpending : s.swapPlace ≠ .before → s.table.pendingSwap ≠ none := mt s.swapPlace_none
  unfold State.slotEvent
  dsimp only
  cases hplace : s.swapPlace with
  | before =>
    left
    rw [State.trySwapAt_here, State.fixEcho_trySwap_countFree, if_pos (by simpa [State.slotBegun] using hrun),
      State.trySwapAt_elsewhere _ (by decide), State.trySwapAt_elsewhere _ (by decide), State.slotSwitches_slotBegun]
    rfl
  | after =>
    refine .inr ⟨hpending (by simp [hplace]), .inl ?_⟩
    rw [State.trySwapAt_here, State.trySwapAt_elsewhere s.countFree (by decide), State.fixEcho_countFree,
      if_pos (show (s.slotBegun _).link.state = .run from hrun), State.trySwapAt_elsewhere _ (by decide),
      State.slotSwitches_slotBegun]
    rfl
  | middle =>
    refine .inr ⟨hpending (by simp [hplace]), .inr ?_⟩
    rw [State.trySwapAt_here, State.trySwapAt_elsewhere s.countFree (by decide), State.fixEcho_countFree,
      if_pos (show (s.slotBegun _).link.state = .run from hrun), State.trySwapAt_elsewhere _ (by decide),
      State.slotSwitches_slotBegun]
    rfl

/-- R8, R113, R114: a slot outside RUN, with the attempt before its work or after it. -/
theorem State.slotEvent_outside (hrun : s.link.state ≠ .run) :
    s.slotEvent x txlim = (s.trySwap.slotBegun (s.slotEcho x + 1#16)).slotIdle (s.slotEcho x) txlim ∨
    s.table.pendingSwap ≠ none ∧
      s.slotEvent x txlim = ((s.slotBegun (s.slotEcho x + 1#16)).slotIdle (s.slotEcho x) txlim).trySwap := by
  have hpending : s.swapPlace ≠ .before → s.table.pendingSwap ≠ none := mt s.swapPlace_none
  unfold State.slotEvent
  dsimp only
  cases hplace : s.swapPlace with
  | before =>
    left
    rw [State.trySwapAt_here, State.fixEcho_trySwap_countFree, if_neg (by simpa [State.slotBegun] using hrun),
      State.trySwapAt_elsewhere _ (by decide), State.trySwapAt_elsewhere _ (by decide)]
  | after =>
    refine .inr ⟨hpending (by simp [hplace]), ?_⟩
    rw [State.trySwapAt_here, State.trySwapAt_elsewhere s.countFree (by decide), State.fixEcho_countFree,
      if_neg (show (s.slotBegun _).link.state ≠ .run from hrun), State.trySwapAt_elsewhere _ (by decide)]
  | middle =>
    left
    rw [State.trySwapAt_elsewhere s.countFree (by decide), State.fixEcho_countFree,
      if_neg (show (s.slotBegun _).link.state ≠ .run from hrun), State.trySwapAt_elsewhere _ (by decide), State.trySwapAt_here,
      State.trySwap_slotBegun]

end

end Sys2Proof.Machine
end

section
/-! What is left of a slot in RUN after its steps 1 to 3 and its attempt at a swap, as one fact about the state (R107,
R112, R117 to R119, R128 to R132). -/

namespace Sys2Proof.Machine

/-- The state `w` with the parts of `t` that steps 4 to 6 of a slot in RUN can change, and the descriptor `d` to be
returned. -/
def State.filledAs (w t : State) (d : Descriptor) : State :=
  { w with
    tx := t.tx, hop := { w.hop with answer := t.hop.answer }, power := t.power
    intake := { w.intake with sending := some { descriptor := d, record := d.record } }
    host := t.host, freeCount := t.freeCount }

/-- R107, R112, R117 to R119, R128 to R132: `t` is the state `w` after steps 4 to 6 of a slot in RUN: `owed` pilots are
owed after step 4, and `d` is returned. -/
structure State.FillsSlot (w : State) (echo : FrameNo) (txlim : Bool) (owed : Nat) (d : Descriptor) (t : State) :
    Prop where
  rest : t = w.filledAs t d
  tx : t.tx = { w.tx with
    staged := t.tx.staged, owed := if d.pilot then owed - 1 else owed, pilotTimer := t.tx.pilotTimer
    pilotReload := false, expectedSlot := echo + 1#16, nextHalf := !w.tx.nextHalf, lastPilot := d.pilot }
  host : w.host.NoSwitch t.host
  descriptor : d = { echo := echo, profile := w.tx.active, attenuation := t.power.a, mute := false, pilot := d.pilot,
                     hcw := { w with hop := t.hop, power := t.power }.runHcw }
  ends : (∃ k, w.slotTimer = some k ∧ k ≤ 1) → owed = min 8 (w.tx.owed + 1) ∧
    t.tx.pilotTimer = loadPilotTimer w.settings.pilotInterval ∧ (8 ≤ w.tx.owed + 1 → t.hasFlag .pilotOverdue = true)
  runs : (¬ ∃ k, w.slotTimer = some k ∧ k ≤ 1) → owed = w.tx.owed ∧ t.tx.pilotTimer = w.slotTimer.map (· - 1)
  pilot : d.pilot = true ↔ 1 ≤ owed ∧ w.tx.staged = none ∧ w.hop.far.fade = false ∧ w.tx.lastPilot = false
  power : ∃ p, w.power.Follows txlim true p ∧
    t.power = { p with a := State.slotAtten { t with power := p }, slotMode := w.settings.atpcMode }
  flag : w.power.LimitComes txlim ∨ w.power.LimitGoes txlim → t.hasFlag .txlimChange = true
  kept : (∀ g, ¬ w.LimitRemoves txlim g) → t.tx.staged = w.tx.staged ∧ t.hop.answer = w.hop.answer
  removed : ∀ g, w.LimitRemoves txlim g → t.tx.staged = none ∧ t.hop.answer = w.hop.answer.follow g .decline 4#4

section
variable {w v : State} {echo : FrameNo} {txlim : Bool}

/-- R107: steps 4 to 6, from a state that carries `w`. -/
theorem State.Carries.slotFinish (h : w.Carries (echo + 1#16) v) (hrun : w.link.state = .run) :
    ∃ owed d, w.FillsSlot echo txlim owed d (v.slotFinish echo txlim) := by
  obtain ⟨owed, ⟨hpaid, hpaidHost, hends, hruns, hpilot⟩⟩ := v.slotPaid_pays
  obtain ⟨hq, hqHost, hpower, hflag, hkept, hremoved⟩ := v.slotPaid.limitWork_follows txlim
  rw [State.slotFinish_eq, State.slotLimited]
  generalize v.slotPaid.limitWork txlim = q at *
  generalize v.slotPaid = paid at *
  generalize v.slotPilot = pilot at *
  refine ⟨owed, q.powered.runDescriptor echo pilot, ?_⟩
  obtain ⟨hv, hhost⟩ := h
  generalize v.host = vhost, v.freeCount = vfree at *
  subst hv
  generalize paid.host = phost, paid.tx.pilotTimer = timer at *
  subst hpaid
  generalize q.tx.staged = staged, q.hop.answer = answer, q.power = power, q.host = qhost at *
  subst hq
  have hpower' : w.power.Follows txlim true power := by simpa [hrun] using hpower
  constructor
  case rest =>
    unfold State.filledAs State.send
    rfl
  case tx =>
    simp [State.send, State.powered, State.runDescriptor, hrun]
    rfl
  case host => exact hhost.trans (hpaidHost.trans hqHost)
  case descriptor => rfl
  case ends =>
    intro hend
    obtain ⟨howed, htimer, hoverdue⟩ := hends hend
    exact ⟨howed, htimer, fun hfull => hqHost.raised _ (hoverdue hfull)⟩
  case runs => exact hruns
  case pilot => exact hpilot
  case power => exact ⟨power, hpower', rfl⟩
  case flag => exact hflag
  case kept => exact hkept
  case removed => exact hremoved

/-- R180: a report that is assembled after steps 4 to 6 changes the Host Link Unit alone. -/
theorem State.FillsSlot.report {owed : Nat} {d : Descriptor} {t : State} (h : w.FillsSlot echo txlim owed d t)
    (point : SlotPoint) : w.FillsSlot echo txlim owed d (t.reportInSlot point) := by
  obtain ⟨hrest, htx, hhost, hd, hends, hruns, hpilot, hpower, hflag, hkept, hremoved⟩ := h
  have hreport := HostLink.NoSwitch.reportInSlot t point
  rw [State.reportInSlot_eq]
  generalize (t.reportInSlot point).host = host at hreport
  constructor
  case rest => exact congrArg (fun u : State => { u with host := host }) hrest
  case tx => exact htx
  case host => exact hhost.trans hreport
  case descriptor => exact hd
  case ends =>
    intro hend
    obtain ⟨howed, htimer, hoverdue⟩ := hends hend
    exact ⟨howed, htimer, fun hfull => hreport.raised _ (hoverdue hfull)⟩
  case runs => exact hruns
  case pilot => exact hpilot
  case power => exact hpower
  case flag => exact fun hchanges => hreport.raised _ (hflag hchanges)
  case kept => exact hkept
  case removed => exact hremoved

/-- R107: the rest of a slot in RUN, from a state that carries `w`. -/
theorem State.Carries.slotRest (h : w.Carries (echo + 1#16) v) (hrun : w.link.state = .run) :
    ∃ owed d, w.FillsSlot echo txlim owed d (v.slotRest echo txlim) := by
  obtain ⟨owed, d, hfills⟩ := (h.report .attempted).slotFinish (txlim := txlim) hrun
  exact ⟨owed, d, hfills.report .filled⟩

section
variable {owed : Nat} {d : Descriptor} {t : State} (h : w.FillsSlot echo txlim owed d t)
include h

theorem State.FillsSlot.table : t.table = w.table := by rw [h.rest]; rfl

theorem State.FillsSlot.settings : t.settings = w.settings := by rw [h.rest]; rfl

theorem State.FillsSlot.link : t.link = w.link := by rw [h.rest]; rfl

theorem State.FillsSlot.active : t.tx.active = w.tx.active := by rw [h.tx]

theorem State.FillsSlot.lanes : t.hop.lane = w.hop.lane ∧ t.hop.r = w.hop.r ∧ t.hop.far = w.hop.far := by
  rw [h.rest]
  exact ⟨rfl, rfl, rfl⟩

/-- R107: steps 4 to 6 leave the receive side and the Performance Monitor alone. -/
theorem State.FillsSlot.receive :
    t.est = w.est ∧ t.fade = w.fade ∧ t.decision = w.decision ∧ t.monitor = w.monitor := by
  rw [h.rest]
  exact ⟨rfl, rfl, rfl, rfl⟩

end

end

/-! ## The places of the attempt at a swap (R8) -/

section
variable {s : State} (x : SlotRecord) (txlim : Bool)

/-- R180: a report at a point of the slot leaves a state at which the slot has begun. -/
theorem State.reportInSlot_slotBegun (s : State) (e : FrameNo) (point : SlotPoint) :
    (s.slotBegun e).reportInSlot point =
      State.slotBegun { s with host := ((s.slotBegun e).reportInSlot point).host } e :=
  State.reportInSlot_eq _ _

/-- R8, R107: steps 4 to 6 of a slot in RUN start from steps 1 to 3 after the attempt at a swap, or before it, with the
attempt at the end of the slot or right after step 3. -/
theorem State.slotEvent_run_fills (hrun : s.link.state = .run) :
    (∃ owed d, s.trySwap.slotSwitches.FillsSlot (s.slotEcho x) txlim owed d (s.slotEvent x txlim)) ∨
    s.table.pendingSwap ≠ none ∧
      ((∃ owed d u, s.slotSwitches.FillsSlot (s.slotEcho x) txlim owed d u ∧ s.slotEvent x txlim = u.trySwap) ∨
      ∃ host owed d, s.slotSwitches.host.NoSwitch host ∧
        (State.trySwap { s.slotSwitches with host := host }).FillsSlot (s.slotEcho x) txlim owed d
          (s.slotEvent x txlim)) := by
  rcases State.slotEvent_run s x txlim hrun with hbefore | ⟨hpending, hafter | hmiddle⟩
  · rw [hbefore]
    exact .inl (((State.slotBegun_carries _ _).report .switched).slotRest (by simpa using hrun))
  · obtain ⟨owed, d, hfills⟩ := ((s.slotSwitches.slotBegun_carries (s.slotEcho x + 1#16)).report .switched).slotRest
      (txlim := txlim) (by simpa using hrun)
    exact .inr ⟨hpending, .inl ⟨owed, d, _, hfills, hafter⟩⟩
  · rw [hmiddle, State.reportInSlot_slotBegun, State.trySwap_slotBegun]
    obtain ⟨owed, d, hfills⟩ := (State.slotBegun_carries (State.trySwap { s.slotSwitches with
      host := ((s.slotSwitches.slotBegun (s.slotEcho x + 1#16)).reportInSlot .switched).host })
      (s.slotEcho x + 1#16)).slotRest (txlim := txlim) (by simpa using hrun)
    exact .inr ⟨hpending, .inr ⟨_, owed, d, .reportInSlot (s.slotSwitches.slotBegun _) _, hfills⟩⟩

end

end Sys2Proof.Machine
end

section
/-! A pending swap at an entry, at the row SWAP_TIMEOUT, and at a slot (R8, R9, R10, R13, R123). -/

namespace Sys2Proof.Machine

/-- R107, R161: a slot of a running controller that returns no descriptor. -/
theorem exec_slot {s : State} (hs : s.Running) (hd : s.intake.sending = none) (rest : List Byte) (txlim : Bool) :
    exec (.txSlot rest txlim) s = .next (s.slotEvent (parseSlot (0xD2#8 :: rest)) txlim) := by
  rw [exec_txSlot hs, State.takeSlot_free hd]

/-! ## Steps 1 to 3 as a change of the state (R108, R109, R110) -/

/-- R108, R109, R110: `t` is `s` with its switches moved on. -/
def State.Switches (s t : State) : Prop :=
  ∃ active staged answer k, t = s.switchedTo active staged answer k

namespace State.Switches

variable {s t u : State}

theorem refl (s : State) : s.Switches s := ⟨_, _, _, 0, s.switchedTo_self.symm⟩

theorem trans (hst : s.Switches t) (htu : t.Switches u) : s.Switches u := by
  obtain ⟨a, g, x, k, rfl⟩ := hst
  obtain ⟨b, r, y, l, rfl⟩ := htu
  exact ⟨b, r, y, l + k, State.switchedTo_switchedTo ..⟩

theorem cancelStaged (s : State) (n : ProfileSet) : s.Switches (s.cancelStaged n) := by
  cases hg : s.tx.staged with
  | none => rw [State.cancelStaged_none hg]; exact .refl s
  | some g =>
    by_cases hin : inSet n g.profile = true
    · rw [State.cancelStaged_member hg hin]; exact .refl s
    · exact ⟨_, _, _, _, State.cancelStaged_cancels hg hin⟩

theorem dropActive (s : State) (n : ProfileSet) : s.Switches (s.dropActive n) := by
  by_cases ha : inSet n s.tx.active = true
  · rw [State.dropActive_member ha]; exact .refl s
  by_cases hsame : ∃ g, s.tx.staged = some g ∧ g.profile = highestBelow n s.tx.active
  · obtain ⟨g, hg, hp⟩ := hsame
    exact ⟨_, _, _, _, State.dropActive_settles ha rfl hg hp⟩
  · exact ⟨_, _, _, _, State.dropActive_leaves ha rfl fun g hg hp => hsame ⟨g, hg, hp⟩⟩

theorem countStaged (s : State) : s.Switches s.countStaged := by
  cases hg : s.tx.staged with
  | none => rw [State.countStaged_none hg]; exact .refl s
  | some g =>
    rcases Nat.lt_or_ge 1 g.countdown with hc | hc
    · exact ⟨_, _, _, _, State.countStaged_counts hg hc⟩
    · exact ⟨_, _, _, _, State.countStaged_executes hg hc⟩

theorem slotSwitches (s : State) : s.Switches s.slotSwitches :=
  (cancelStaged s _).trans ((dropActive _ _).trans (countStaged _))

end State.Switches

/-- R177: a switch clears no flag. -/
theorem HostLink.switched_iterate_raised (h : HostLink) (k : Nat) (f : EventFlag)
    (hf : h.raised.getLsbD f.num = true) : (HostLink.switched^[k] h).raised.getLsbD f.num = true := by
  induction k with
  | zero => exact hf
  | succ k ih =>
    rw [Function.iterate_succ_apply']
    show ((HostLink.switched^[k] h).raise .txSwitch).raised.getLsbD _ = true
    rw [HostLink.raise_getLsbD, ih, Bool.true_or]

theorem State.slotSwitches_raised {s : State} {f : EventFlag} (h : s.hasFlag f = true) :
    s.slotSwitches.hasFlag f = true := by
  obtain ⟨a, g, x, k, hs⟩ := State.Switches.slotSwitches s
  rw [hs]
  exact HostLink.switched_iterate_raised s.host k f h

/-! ## A slot outside RUN, and the Host Link Unit -/

theorem State.idlePower_noSwitch (s : State) (txlim : Bool) : s.host.NoSwitch (s.idlePower txlim).host := by
  rcases s.idlePower_cases txlim with h | h <;> rw [h]
  · exact (s.limitWork_follows txlim).host
  · exact (s.setIdleAtten.limitWork_follows txlim).host

theorem State.slotIdle_noSwitch (s : State) (echo : FrameNo) (txlim : Bool) :
    s.host.NoSwitch (s.slotIdle echo txlim).host :=
  s.reloadPilotTimer.idlePower_noSwitch txlim

/-! ## The attempt at a slot (R8) -/

section
variable {s t : State} {echo : FrameNo} {txlim : Bool} {owed : Nat} {d : Descriptor}

theorem State.takeSwap_table (s : State) :
    s.takeSwap.table = { s.table.installed with pendingSwap := none } := by rw [State.takeSwap_eq]; rfl

theorem State.takeSwap_flag (s : State) : s.takeSwap.hasFlag .tableSwapped = true := by
  rw [State.takeSwap_eq, State.hasFlag_raise]
  simp

/-- R8: a table that fails validation is not taken. -/
theorem State.trySwap_invalid (h : ¬ TableValid s.table.shadow s.settings.attenMax) : s.trySwap = s :=
  State.trySwap_unready fun hready => h (s.swapReady_iff.1 hready).2.1

/-- R8: the swap is taken at `t`: its table is the installed one, and TABLE_SWAPPED is raised. -/
def State.TakesSwap (s t : State) : Prop :=
  t.table = { s.table.installed with pendingSwap := none } ∧ t.hasFlag .tableSwapped = true

theorem State.takesSwap_of_ready (hready : t.swapReady = true) (htable : t.table = s.table) :
    s.TakesSwap t.trySwap := by
  rw [State.trySwap_ready hready]
  exact ⟨by rw [State.takeSwap_table, htable], t.takeSwap_flag⟩

/-- With nothing staged, the rest of a slot in RUN leaves alone what a swap waits for. -/
theorem State.FillsSlot.swapReady (h : s.FillsSlot echo txlim owed d t) (hstaged : s.tx.staged = none) :
    t.swapReady = s.swapReady := by
  have hnone : t.tx.staged = none := by
    rw [(h.kept fun g hg => ?_).1, hstaged]
    simp [State.LimitRemoves, hstaged] at hg
  obtain ⟨hlane, hr, -⟩ := h.lanes
  exact State.swapReady_congr h.table h.settings h.link fun _ => ⟨hlane, hr, hnone.trans hstaged.symm, h.active⟩

theorem State.TakesSwap.fills {u : State} (h : s.TakesSwap u) (hfills : u.FillsSlot echo txlim owed d t) :
    s.TakesSwap t :=
  ⟨hfills.table.trans h.1, hfills.host.raised _ h.2⟩

/-- R8: a swap that is ready at a slot in RUN, with the active profile in N, is taken at it. -/
theorem State.slotEvent_run_takes (hrun : s.link.state = .run) (hready : s.swapReady = true)
    (hN : inSet s.table.negotiated s.tx.active = true) (x : SlotRecord) (txlim : Bool) :
    s.TakesSwap (s.slotEvent x txlim) := by
  have hstaged : s.tx.staged = none := ((s.swapReady_iff.1 hready).2.2 hrun).2.1
  have hswitches : s.slotSwitches = s := State.slotSwitches_keeps hN hstaged
  rcases State.slotEvent_run_fills x txlim hrun with ⟨owed, d, hfills⟩ | ⟨-, ⟨owed, d, u, hfills, hu⟩ | ⟨host, owed, d, -, hfills⟩⟩
  · have htakes : s.TakesSwap s.trySwap := State.takesSwap_of_ready hready rfl
    have htable : s.trySwap.slotSwitches.table = s.trySwap.table := by simp
    exact State.TakesSwap.fills ⟨htable.trans htakes.1, State.slotSwitches_raised htakes.2⟩ hfills
  · rw [hswitches] at hfills
    rw [hu]
    exact State.takesSwap_of_ready ((hfills.swapReady hstaged).trans hready) hfills.table
  · rw [hswitches] at hfills
    exact State.TakesSwap.fills (State.takesSwap_of_ready (t := { s with host := host }) hready rfl) hfills

/-- R8: a swap that is ready at a slot outside RUN is taken at it. -/
theorem State.slotEvent_outside_takes (hrun : s.link.state ≠ .run) (hready : s.swapReady = true) (x : SlotRecord)
    (txlim : Bool) : s.TakesSwap (s.slotEvent x txlim) := by
  rcases State.slotEvent_outside s x txlim hrun with h | ⟨-, h⟩ <;> rw [h]
  · obtain ⟨htable, hflag⟩ : s.TakesSwap s.trySwap := State.takesSwap_of_ready hready rfl
    exact ⟨by simpa using htable, (State.slotIdle_noSwitch _ _ _).raised _ hflag⟩
  · refine State.takesSwap_of_ready ?_ (by simp)
    rw [← hready]
    exact State.swapReady_congr (by simp) (by simp) (by simp) fun hr => absurd hr hrun

/-- R8: a slot keeps the tables where the shadow table fails validation. -/
theorem State.slotEvent_table_of_invalid (h : ¬ TableValid s.table.shadow s.settings.attenMax) (x : SlotRecord)
    (txlim : Bool) : (s.slotEvent x txlim).table = s.table := by
  by_cases hrun : s.link.state = .run
  · have hfilled {w t : State} {owed : Nat} {d : Descriptor} (hw : w.table = s.table)
        (hfills : w.FillsSlot (s.slotEcho x) txlim owed d t) : t.table = s.table :=
      hfills.table.trans hw
    rcases State.slotEvent_run_fills x txlim hrun with
      ⟨owed, d, hfills⟩ | ⟨-, ⟨owed, d, u, hfills, hu⟩ | ⟨host, owed, d, -, hfills⟩⟩
    · rw [State.trySwap_invalid h] at hfills
      exact hfilled (by simp) hfills
    · have htable : u.table = s.table := hfilled (by simp) hfills
      have hset : u.settings = s.settings := hfills.settings.trans (by simp)
      rw [hu, State.trySwap_invalid (by rwa [htable, hset]), htable]
    · rw [State.trySwap_invalid (by simpa using h)] at hfills
      exact hfilled (by simp) hfills
  · rcases State.slotEvent_outside s x txlim hrun with ht | ⟨-, ht⟩ <;> rw [ht]
    · rw [State.trySwap_invalid h]
      simp
    · rw [State.trySwap_invalid (by simpa using h)]
      simp

end

/-- Settles O22: at an entry by the readiness of the swap, at a slot by the place of the attempt. -/
theorem pendingSwapAtEntry : Obligations.PendingSwapAtEntry := by
  unfold Obligations.PendingSwapAtEntry
  refine ⟨fun s hnone => ⟨State.swapAtEntry_none hnone, State.trySwap_none hnone⟩, ?_⟩
  intro s n hn ready dropped
  have hready : s.swapReady = true ↔ ready :=
    s.swapReady_iff.trans (and_iff_right (by rw [hn]; rfl))
  refine ⟨fun hr => ?_, fun hr => State.trySwap_unready (mt hready.1 hr),
    fun hr hlow => State.swapAtEntry_counts hn (mt hready.1 hr) hlow,
    fun hr hfull => State.swapAtEntry_drops hn (mt hready.1 hr) hfull, ?_, fun hs => ⟨?_, ?_⟩⟩
  · have hfit := hready.2 hr
    refine ⟨enabledSet s.table.shadow, max s.power.a s.shadowFloor, { s.table.installed with pendingSwap := none },
      inSet_enabledSet s.table.shadow, ?_, rfl, ?_, ?_, ?_⟩
    · unfold State.shadowFloor
      cases s.tx.staged <;> rfl
    · rw [State.swapAtEntry_ready hn hfit, State.takeSwap_eq]
    · rw [State.swapAtEntry_ready hn hfit, State.trySwap_ready hfit]
    · intro hs hd hN rest txlim
      refine ⟨_, exec_slot hs hd rest txlim, ?_⟩
      by_cases hrun : s.link.state = .run
      · exact State.slotEvent_run_takes hrun hfit (hN hrun) _ txlim
      · exact State.slotEvent_outside_takes hrun hfit _ txlim
  · exact fun hinvalid hs hd rest txlim =>
      ⟨_, exec_slot hs hd rest txlim, State.slotEvent_table_of_invalid hinvalid _ txlim⟩
  · intro hcase
    rw [exec_swapTimeout hs, if_neg]
    rw [State.swapExpires_iff hn]
    rintro ⟨hfull, hunready⟩
    rcases hcase with hr | hlow
    · exact hunready (hready.2 hr)
    · omega
  · intro hr hfull
    rw [exec_swapTimeout hs, if_pos ((State.swapExpires_iff hn).2 ⟨hfull, mt hready.1 hr⟩)]
    rfl

end Sys2Proof.Machine
end

section
/-! The switches at a slot in RUN, as the slot leaves them (R102, R107 to R110, R131, R180). -/

namespace Sys2Proof.Machine

/-! ## Answers and members of N (R102, R109) -/

theorem AnswerLane.follow_eq (a : AnswerLane) (g : StagedSwitch) (kind : AnswerKind) (value : BitVec 4) :
    a.follow g kind value =
      if a.kind = .agree ∧ a.seq = g.seq then { a with kind := kind, value := value } else a := by
  simp [AnswerLane.follow, AnswerLane.staged]

/-- R102, R131: an AGREE that has followed its switch still is the answer of that switch. -/
theorem AnswerLane.follow_agree_follow (a : AnswerLane) (g : StagedSwitch) (c : Nat) (v w : BitVec 4)
    (kind : AnswerKind) : (a.follow g .agree v).follow { g with countdown := c } kind w = a.follow g kind w := by
  simp only [AnswerLane.follow_eq]
  by_cases h : a.kind = .agree ∧ a.seq = g.seq
  · simp [h]
  · simp [h]

/-- R109: the highest member of N below the active profile is the one that the search finds. -/
theorem highestBelow_eq {n : ProfileSet} {a p : Profile} (hp : inSet n p = true) (hlt : p < a)
    (hmax : ∀ j, inSet n j = true → j < a → j ≤ p) : highestBelow n a = p := by
  obtain ⟨hin, hbelow, hhighest⟩ : IsHighest n (· < a) (highestBelow n a) :=
    findDown_isHighest (fun k => by simp) hp hlt
  exact le_antisymm (hmax _ hin hbelow) (hhighest p hp hlt)

/-! ## What the slot makes of the switches (R107, R131, R180) -/

/-- R107, R131: `t` is what the slot leaves once steps 1 to 3 have left `m`: the descriptor is sent under the active
profile of `m`, and the limit may remove the switch that `m` has staged. -/
structure State.SendsAfter (m : State) (txlim : Bool) (t : State) : Prop where
  sends   : ∃ d, t.intake.sending = some d ∧ d.descriptor.profile = m.tx.active
  active  : t.tx.active = m.tx.active
  host    : m.host.NoSwitch t.host
  kept    : (∀ g, ¬ m.LimitRemoves txlim g) → t.tx.staged = m.tx.staged ∧ t.hop.answer = m.hop.answer
  removed : ∀ g, m.LimitRemoves txlim g → t.tx.staged = none ∧ t.hop.answer = m.hop.answer.follow g .decline 4#4

/-- R107, R177, R180: the slot `t` leaves the switches of `s` so, after a number of changes of the active profile. -/
def State.Leaves (s t : State) (active : Profile) (staged : Option StagedSwitch) (answer : AnswerLane)
    (switches : Nat) : Prop :=
  ∃ d, t.intake.sending = some d ∧ d.descriptor.profile = active ∧
    t.tx.active = active ∧ t.tx.staged = staged ∧ t.hop.answer = answer ∧
    (0 < switches → t.hasFlag .txSwitch = true) ∧ (switches = 0 → t.hasFlag .txSwitch = s.hasFlag .txSwitch) ∧
    t.host.reportsDue = s.host.reportsDue + BitVec.ofNat 16 (if s.host.watch.mode = .onSwitch then switches else 0)

/-- R110, R131: so it leaves the switch `g`, still staged, which counts down under the active profile that is left. -/
def State.LeavesCounted (s t : State) (txlim : Bool) (active : Profile) (g : StagedSwitch) (switches : Nat) : Prop :=
  (2 ≤ g.countdown → ¬ (s.power.LimitComes txlim ∧ active < g.profile) →
    s.Leaves t active (some { g with countdown := g.countdown - 1 })
      (s.hop.answer.follow g .agree (BitVec.ofNat 4 (g.countdown - 1))) switches) ∧
  (2 ≤ g.countdown → s.power.LimitComes txlim → active < g.profile →
    s.Leaves t active none (s.hop.answer.follow g .decline 4#4) switches) ∧
  (g.countdown ≤ 1 → s.Leaves t g.profile none (s.hop.answer.follow g .agree 0#4) (switches + 1))

section
variable {s m t : State} {txlim : Bool} {active : Profile} {staged : Option StagedSwitch} {answer : AnswerLane}
  {switches : Nat} {g : StagedSwitch}

theorem State.trySwap_switches (s : State) : s.trySwap.tx = s.tx ∧ s.trySwap.hop = s.hop ∧
    s.trySwap.intake = s.intake ∧ ∀ g, s.trySwap.LimitRemoves txlim g ↔ s.LimitRemoves txlim g := by
  by_cases h : s.swapReady = true
  · rw [State.trySwap_ready h, State.takeSwap_eq]
    exact ⟨rfl, rfl, rfl, fun _ => Iff.rfl⟩
  · rw [State.trySwap_unready h]
    exact ⟨rfl, rfl, rfl, fun _ => Iff.rfl⟩

/-- R107: the number that the descriptor echoes is the same after the attempt at a swap. -/
theorem State.slotEcho_trySwap (s : State) (x : SlotRecord) : s.trySwap.slotEcho x = s.slotEcho x := by
  obtain ⟨htx, -⟩ := s.trySwap_switches (txlim := false)
  rw [State.slotEcho, htx, State.slotEcho]

theorem State.FillsSlot.sendsAfter {echo : FrameNo} {owed : Nat} {d : Descriptor}
    (h : m.FillsSlot echo txlim owed d t) : m.SendsAfter txlim t where
  sends := ⟨_, congrArg (·.intake.sending) h.rest, congrArg Descriptor.profile h.descriptor⟩
  active := h.active
  host := h.host
  kept := h.kept
  removed := h.removed

/-- R8: a swap that is tried after the slot leaves the switches alone. -/
theorem State.SendsAfter.trySwap (h : m.SendsAfter txlim t) : m.SendsAfter txlim t.trySwap := by
  obtain ⟨htx, hhop, hintake, -⟩ := t.trySwap_switches (txlim := txlim)
  exact ⟨hintake ▸ h.sends, htx ▸ h.active, h.host.trans (.trySwap t), htx ▸ hhop ▸ h.kept, htx ▸ hhop ▸ h.removed⟩

/-- R8, R180: so does one that is tried right after step 3. -/
theorem State.SendsAfter.of_trySwap {host : HostLink} (hhost : m.host.NoSwitch host)
    (h : (State.trySwap { m with host := host }).SendsAfter txlim t) : m.SendsAfter txlim t := by
  obtain ⟨htx, hhop, -, hremoves⟩ := State.trySwap_switches (txlim := txlim) { m with host := host }
  obtain ⟨hsends, hactive, hnoSwitch, hkept, hremoved⟩ := h
  rw [htx] at hsends hactive hkept
  rw [hhop] at hkept hremoved
  simp only [hremoves] at hkept hremoved
  exact ⟨hsends, hactive, hhost.trans (.trans (.trySwap { m with host := host }) hnoSwitch), hkept, hremoved⟩

theorem State.SendsAfter.leaves_of (h : m.SendsAfter txlim t) {after : Option StagedSwitch} {said : AnswerLane}
    (hm : m = s.switchedTo active staged answer switches) (hafter : t.tx.staged = after ∧ t.hop.answer = said) :
    s.Leaves t active after said switches := by
  subst hm
  obtain ⟨d, hd, hprofile⟩ := h.sends
  obtain ⟨hflag, -, hdue⟩ := s.host.switched_iterate switches
  refine ⟨d, hd, hprofile, h.active, hafter.1, hafter.2, fun hpos => h.host.raised _ (hflag hpos), fun hzero => ?_,
    h.host.due.trans hdue⟩
  subst hzero
  exact h.host.txSwitch

/-- The limit removes nothing. -/
theorem State.SendsAfter.leaves (h : m.SendsAfter txlim t) (hm : m = s.switchedTo active staged answer switches)
    (hkept : ∀ g, staged = some g → s.power.LimitComes txlim → ¬ active < g.profile) :
    s.Leaves t active staged answer switches := by
  refine h.leaves_of hm ?_
  subst hm
  exact h.kept fun g hg => hkept g hg.2.2.1 hg.2.1 hg.2.2.2

theorem State.SendsAfter.leavesCounted (h : m.SendsAfter txlim t) (hrun : s.link.state = .run)
    (hm : m = (s.switchedTo active (some g) s.hop.answer switches).countStaged) :
    s.LeavesCounted t txlim active g switches := by
  have hcounts (hc : 2 ≤ g.countdown) : m = s.switchedTo active (some { g with countdown := g.countdown - 1 })
      (s.hop.answer.follow g .agree (BitVec.ofNat 4 (g.countdown - 1))) switches := by
    rw [hm, State.countStaged_counts (s := s.switchedTo active (some g) _ _) rfl hc, State.switchedTo_switchedTo,
      Nat.zero_add]
    rfl
  refine ⟨fun hc hkept => h.leaves (hcounts hc) ?_, fun hc hcomes hup => ?_, fun hc => h.leaves ?_ (by simp)⟩
  · rintro _ ⟨rfl⟩ hcomes hup
    exact hkept ⟨hcomes, hup⟩
  · have hremoves : m.LimitRemoves txlim { g with countdown := g.countdown - 1 } := by
      rw [hcounts hc]
      exact ⟨hrun, hcomes, rfl, hup⟩
    obtain ⟨hstaged, hanswer⟩ := h.removed _ hremoves
    refine h.leaves_of (hcounts hc) ⟨hstaged, hanswer.trans ?_⟩
    rw [hcounts hc]
    exact AnswerLane.follow_agree_follow ..
  · rw [hm, State.countStaged_executes (s := s.switchedTo active (some g) _ _) rfl hc, State.switchedTo_switchedTo,
      Nat.add_comm]
    rfl

/-- The limit finds no switch staged. -/
theorem State.SendsAfter.leaves_none (h : m.SendsAfter txlim t)
    (hm : m = s.switchedTo active none answer switches) : s.Leaves t active none answer switches :=
  h.leaves hm (by simp)

/-! R108, R109, R110: the slot by the members of N. -/

section
variable (h : s.slotSwitches.SendsAfter txlim t) (hrun : s.link.state = .run)
include h hrun

theorem State.SendsAfter.of_member (ha : inSet s.table.negotiated s.tx.active = true) :
    (s.tx.staged = none → s.Leaves t s.tx.active none s.hop.answer 0) ∧
    (∀ g, s.tx.staged = some g →
      (inSet s.table.negotiated g.profile = true → s.LeavesCounted t txlim s.tx.active g 0) ∧
      (¬ inSet s.table.negotiated g.profile = true →
        s.Leaves t s.tx.active none (s.hop.answer.follow g .decline 2#4) 0)) := by
  refine ⟨fun hnone => h.leaves_none ?_, fun g hg => ⟨fun hin => h.leavesCounted hrun ?_, fun hout => h.leaves_none ?_⟩⟩
  · rw [State.slotSwitches_keeps ha hnone, ← hnone, State.switchedTo_self]
  · rw [State.slotSwitches_counts ha hg hin, ← hg, State.switchedTo_self]
  · exact State.slotSwitches_cancels ha hg hout

theorem State.SendsAfter.of_not_member {p : Profile} (ha : ¬ inSet s.table.negotiated s.tx.active = true)
    (hp : inSet s.table.negotiated p = true) (hbelow : highestBelow s.table.negotiated s.tx.active = p) :
    (s.tx.staged = none → s.Leaves t p none s.hop.answer 1) ∧
    (∀ g, s.tx.staged = some g →
      (¬ inSet s.table.negotiated g.profile = true → s.Leaves t p none (s.hop.answer.follow g .decline 2#4) 1) ∧
      (g.profile = p → s.Leaves t p none (s.hop.answer.follow g .agree 0#4) 1) ∧
      (inSet s.table.negotiated g.profile = true → g.profile ≠ p → s.LeavesCounted t txlim p g 1)) := by
  refine ⟨fun hnone => h.leaves_none (State.slotSwitches_drops ha hbelow hnone), fun g hg =>
    ⟨fun hout => h.leaves_none (State.slotSwitches_drops_cancels ha hbelow hg hout), fun hsame => ?_,
    fun hin hother => h.leavesCounted hrun (State.slotSwitches_drops_counts ha hbelow hg hin hother)⟩⟩
  subst hsame
  exact h.leaves_none (State.slotSwitches_drops_settles ha hbelow hg hp)

end

end

/-- R107: every slot in RUN sends after its steps 1 to 3, which N of before or of after the swap governs. -/
theorem State.slotEvent_sendsAfter {s : State} (hrun : s.link.state = .run) (x : SlotRecord) (txlim : Bool) :
    s.trySwap.slotSwitches.SendsAfter txlim (s.slotEvent x txlim) ∨
    s.table.pendingSwap ≠ none ∧ s.slotSwitches.SendsAfter txlim (s.slotEvent x txlim) := by
  rcases State.slotEvent_run_fills x txlim hrun with
    ⟨owed, d, hfills⟩ | ⟨hpending, ⟨owed, d, u, hfills, hu⟩ | ⟨host, owed, d, hhost, hfills⟩⟩
  · exact .inl hfills.sendsAfter
  · exact .inr ⟨hpending, hu ▸ hfills.sendsAfter.trySwap⟩
  · exact .inr ⟨hpending, .of_trySwap hhost hfills.sendsAfter⟩

/-- Settles O43: steps 1 to 3 by the members of N and the countdown, then the limit. -/
theorem stagedSwitchCountsDown : Obligations.StagedSwitchCountsDown := by
  unfold Obligations.StagedSwitchCountsDown
  intro rest txlim s hs hd hrun moves
  have hmoves (s t : State) (hrun : s.link.state = .run) (h : s.slotSwitches.SendsAfter txlim t) : moves s t := by
    have hmember := h.of_member hrun
    have hdropped {p : Profile} := h.of_not_member hrun (p := p)
    simp only [State.LeavesCounted, AnswerLane.follow_eq] at hmember hdropped
    exact ⟨hmember, fun ha p hp hlt hmax => hdropped ha hp (highestBelow_eq hp hlt hmax)⟩
  refine ⟨_, exec_slot hs hd rest txlim, ?_⟩
  rcases State.slotEvent_sendsAfter hrun (parseSlot (0xD2#8 :: rest)) txlim with h | ⟨hpending, h⟩
  · have hlater := hmoves _ _ (by simpa using hrun) h
    exact ⟨fun hnone => by rwa [State.trySwap_none hnone] at hlater, .inr hlater⟩
  · exact ⟨fun hnone => absurd hnone hpending, .inl (hmoves _ _ hrun h)⟩

end Sys2Proof.Machine
end

section
/-! A slot outside RUN (R107, R113, R114, R117, R130 to R133, R161, R184). -/

namespace Sys2Proof.Machine

/-! ## The Power Control Unit after the sample (R130, R131, R132) -/

section
variable {p q : PowerControl} {txlim run : Bool} (h : p.Follows txlim run q)
include h

theorem PowerControl.Follows.sample : q.lastSample = some (limitSample txlim) := by
  by_cases hcomes : p.LimitComes txlim
  · rw [h.comes hcomes, hcomes.1]; rfl
  by_cases hgoes : p.LimitGoes txlim
  · rw [h.goes hgoes, hgoes.1]; rfl
  · rw [h.stands hcomes hgoes]

theorem PowerControl.Follows.keeps :
    q.rateCount = p.rateCount ∧ q.request = p.request ∧ q.slotMode = p.slotMode := by
  by_cases hcomes : p.LimitComes txlim
  · rw [h.comes hcomes]; exact ⟨rfl, rfl, rfl⟩
  by_cases hgoes : p.LimitGoes txlim
  · rw [h.goes hgoes]; exact ⟨rfl, rfl, rfl⟩
  · rw [h.stands hcomes hgoes]; exact ⟨rfl, rfl, rfl⟩

theorem PowerControl.Follows.limit_comes (hcomes : p.LimitComes txlim) : q.limit = .limited ∧ q.heldA = some p.a := by
  rw [h.comes hcomes]; exact ⟨rfl, rfl⟩

theorem PowerControl.Follows.limit_goes (hgoes : p.LimitGoes txlim) : q.limit = .released ∧ q.heldA = none := by
  rw [h.goes hgoes]; exact ⟨rfl, rfl⟩

theorem PowerControl.Follows.limit_stands (hcomes : ¬ p.LimitComes txlim) (hgoes : ¬ p.LimitGoes txlim) :
    q.limit = p.limit ∧ q.heldA = p.heldA := by
  rw [h.stands hcomes hgoes]; exact ⟨rfl, rfl⟩

end

/-! ## The slot (R107, R113, R114) -/

/-- R113, R114, R133: the descriptor of a slot outside RUN, at the attenuation that R133 gives. -/
def State.idleSent (w : State) (echo : FrameNo) : Descriptor := w.setIdleAtten.idleDescriptor echo

/-- R107, R113, R114, R117, R133: `t` is the state `w` after a slot outside RUN. -/
structure State.FillsIdle (w : State) (echo : FrameNo) (txlim : Bool) (t : State) : Prop where
  rest : t = { w with
    tx := { w.tx with
      pilotTimer := w.slotTimer, pilotReload := false, lastPilot := false, expectedSlot := echo + 1#16
      nextHalf := !w.tx.nextHalf
      haltCount := if w.link.state = .config then w.tx.haltCount - 1 else w.tx.haltCount }
    power := t.power
    intake := { w.intake with
      sending := some { descriptor := w.idleSent echo, record := (w.idleSent echo).record } }
    host := t.host, freeCount := t.freeCount }
  power : ∃ a p, (a = w.power.a ∨ a = w.idleAtten) ∧ { w.power with a := a }.Follows txlim false p ∧
    t.power = { p with a := w.idleAtten }
  flag : w.power.LimitComes txlim ∨ w.power.LimitGoes txlim → t.hasFlag .txlimChange = true

section
variable {s w : State} {echo : FrameNo} {txlim : Bool}

/-- R131: outside RUN the TXLIM work changes the Power Control Unit, and flags, alone. -/
theorem State.limitWork_outside_eq (hrun : s.link.state ≠ .run) :
    s.limitWork txlim = { s with power := (s.limitWork txlim).power, host := (s.limitWork txlim).host } := by
  obtain ⟨hrest, -, -, -, hkept, -⟩ := s.limitWork_follows txlim
  obtain ⟨hstaged, hanswer⟩ := hkept fun g hg => hrun hg.1
  rwa [hstaged, hanswer] at hrest

/-- R130, R131, R133: A is set after the TXLIM work, which finds it as it stood or as the slot sets it (assumption 31). -/
theorem State.idlePower_spec (hrun : s.link.state ≠ .run) : ∃ a p host, (a = s.power.a ∨ a = s.idleAtten) ∧
    { s.power with a := a }.Follows txlim false p ∧
    (s.power.LimitComes txlim ∨ s.power.LimitGoes txlim → host.raised.getLsbD EventFlag.txlimChange.num = true) ∧
    s.idlePower txlim = { s with power := { p with a := s.idleAtten }, host := host } := by
  have hphase : (s.link.state == .run) = false := by simp [hrun]
  have hwork (a : Nat) (h : s.idlePower txlim =
      (State.limitWork { s with power := { s.power with a := a } } txlim).setIdleAtten) : ∃ p host,
      { s.power with a := a }.Follows txlim false p ∧
      (s.power.LimitComes txlim ∨ s.power.LimitGoes txlim → host.raised.getLsbD EventFlag.txlimChange.num = true) ∧
      s.idlePower txlim = { s with power := { p with a := s.idleAtten }, host := host } := by
    obtain ⟨-, -, hpower, hflag, -, -⟩ :=
      State.limitWork_follows { s with power := { s.power with a := a } } txlim
    refine ⟨_, _, hphase ▸ hpower, hflag, h.trans ?_⟩
    exact congrArg State.setIdleAtten
      (State.limitWork_outside_eq (s := { s with power := { s.power with a := a } }) hrun)
  rcases s.idlePower_cases txlim with h | h
  · exact ⟨_, (hwork s.power.a h).imp fun p hp => hp.imp fun host hhost => ⟨.inl rfl, hhost⟩⟩
  · exact ⟨_, (hwork s.idleAtten h).imp fun p hp => hp.imp fun host hhost => ⟨.inr rfl, hhost⟩⟩

/-- R113, R114: a slot outside RUN, once it has begun. -/
theorem State.slotIdle_fills (w : State) (echo : FrameNo) (txlim : Bool) (hrun : w.link.state ≠ .run) :
    w.FillsIdle echo txlim ((w.slotBegun (echo + 1#16)).slotIdle echo txlim) := by
  obtain ⟨a, p, host, ha, hpower, hflag, hidle⟩ :=
    State.idlePower_spec (s := (w.slotBegun (echo + 1#16)).reloadPilotTimer) (txlim := txlim) hrun
  unfold State.slotIdle
  rw [hidle]
  exact ⟨rfl, ⟨a, p, ha, hpower, rfl⟩, hflag⟩

/-- R113, R114, R133: the descriptor of a slot outside RUN, by the phase of the link. -/
theorem State.idleSent_eq (hrun : s.link.state ≠ .run) : s.idleSent echo =
    let muted := s.link.state = .config ∧ s.tx.haltCount = 0
    { echo := echo, profile := 0
      attenuation := if muted then s.settings.attenMax else (s.table.active[(0 : Profile)]).backoff
      mute := decide muted, pilot := false
      hcw := {
        phase := if s.link.state = .caps then .caps
                 else if s.link.state = .config ∧ s.tx.haltCount ≠ 0 then .halt else .sync
        askKind := .none, askSeq := s.hop.lane.seq, askProfile := 0, ansKind := .none, ansSeq := 0#3
        ansValue := 0#4, powerReq := .none, fade := false, capsHalf := s.tx.nextHalf
        capsByte := if s.tx.nextHalf then s.table.ownMask.extractLsb' 8 8 else s.table.ownMask.extractLsb' 0 8 } } := by
  simp only [State.idleSent, State.idleDescriptor, State.idleHcw, State.setIdleAtten, State.idleAtten, State.row,
    ProfileTable.capsByte]
  cases h : s.link.state with
  | run => exact absurd h hrun
  | sync => simp; rfl
  | caps => simp; rfl
  | config => by_cases hnotice : s.tx.haltCount = 0 <;> simp [hnotice] <;> rfl

end

/-- R184: the twelve bytes of a descriptor: ten, and the check of them. -/
theorem Descriptor.record_bytes (x : Descriptor) : ∃ bytes : List Byte, x.record = bytes ++ le16 (crc16 bytes) ∧
    bytes = [0xE1#8] ++ le16 x.echo ++ [BitVec.ofNat 8 x.profile.val, BitVec.ofNat 8 x.attenuation,
      if x.pilot then (if x.mute then 3#8 else 2#8) else (if x.mute then 1#8 else 0#8)] ++ le32 x.hcw.encode := by
  refine ⟨_, rfl, ?_⟩
  cases x.mute <;> cases x.pilot <;> simp [le8]

/-- Settles O41: one slot outside RUN, from the state before the attempt at a swap or from the state after it. -/
theorem slotOutsideRun : Obligations.SlotOutsideRun := by
  unfold Obligations.SlotOutsideRun
  intro rest txlim s hs hd hrun bs slot
  refine ⟨?_, Descriptor.record_bytes⟩
  have hslot (u t : State) (hrun : u.link.state ≠ .run) (h : u.FillsIdle (u.slotEcho (parseSlot bs)) txlim t) :
      slot u t := by
    obtain ⟨hrest, ⟨a, p, ha, hfollows, hpower⟩, hflag⟩ := h
    rw [State.idleSent_eq hrun] at hrest
    obtain ⟨hrate, hrequest, hmode⟩ := hfollows.keeps
    have hlimit : t.power.limit = p.limit := by rw [hpower]
    have hheld : t.power.heldA = p.heldA := by rw [hpower]
    refine ⟨?_, fun hcomes => ?_, fun hgoes => ?_, fun hcomes hgoes => ?_, ?_, ?_, ?_, ?_, ?_, ?_, ?_⟩
    · rw [hpower]
      exact hfollows.sample
    · obtain ⟨hplimit, hpheld⟩ := hfollows.limit_comes hcomes
      refine ⟨hlimit.trans hplimit, hflag (.inl hcomes), ?_⟩
      rw [hheld, hpheld]
      exact ha.imp (congrArg some) (congrArg some)
    · obtain ⟨hplimit, hpheld⟩ := hfollows.limit_goes hgoes
      exact ⟨hlimit.trans hplimit, hheld.trans hpheld, hflag (.inr hgoes)⟩
    · obtain ⟨hplimit, hpheld⟩ := hfollows.limit_stands hcomes hgoes
      exact ⟨hlimit.trans hplimit, hheld.trans hpheld⟩
    · rw [hrest]; rfl
    · rw [hrest]; rfl
    · rw [hpower]; rfl
    · rw [hpower]; exact hrate
    · rw [hpower]; exact hrequest
    · rw [hpower]; exact hmode
    · rw [hrest]
      exact ⟨rfl, rfl, rfl, rfl, rfl, rfl, rfl, rfl⟩
  refine ⟨_, exec_slot hs hd rest txlim, ?_⟩
  rcases State.slotEvent_outside s (parseSlot bs) txlim hrun with h | ⟨hpending, h⟩
  · have hfills := State.slotIdle_fills s.trySwap (s.slotEcho (parseSlot bs)) txlim (by simpa using hrun)
    rw [← h] at hfills
    have hecho : s.trySwap.slotEcho (parseSlot bs) = s.slotEcho (parseSlot bs) := s.slotEcho_trySwap _
    have hlater := hslot s.trySwap _ (by simpa using hrun) (hecho.symm ▸ hfills)
    exact ⟨fun hnone => by rwa [State.trySwap_none hnone] at hlater, .inl hlater⟩
  · have hfills := hslot s _ hrun (State.slotIdle_fills s (s.slotEcho (parseSlot bs)) txlim hrun)
    exact ⟨fun hnone => absurd hnone hpending, .inr ⟨_, hfills, h⟩⟩

end Sys2Proof.Machine
end

section
/-! The members of N under the table law, and what steps 1 to 3 of a slot leave of them (R10, R11, R13, R108 to R110,
R123, R128). -/

namespace Sys2Proof.Machine

/-! ## The members of N (R10, R11, R13) -/

theorem inSet_one {p : Profile} : inSet 1#16 p = true ↔ p = 0 := by
  revert p
  decide

namespace State.TableLaw

variable {s : State} {p : Profile} (h : s.TableLaw)
include h

/-- R13: with both marks set N is what the own mask and the far mask share. -/
theorem member_marked (hm : (s.table.mark0 && s.table.mark1) = true) : inSet s.table.negotiated p = true ↔
    (s.table.active[p]).enabled = true ∧ inSet (s.table.farHalf1 ++ s.table.farHalf0) p = true := by
  rw [h.negotiated, if_pos hm, ← h.own p]
  simp [inSet]

/-- R13: otherwise N holds profile 0 alone. -/
theorem member_unmarked (hm : ¬ (s.table.mark0 && s.table.mark1) = true) :
    inSet s.table.negotiated p = true ↔ p = 0 := by
  rw [h.negotiated, if_neg hm, inSet_one]

theorem member_enabled (hp : inSet s.table.negotiated p = true) : (s.table.active[p]).enabled = true := by
  by_cases hm : (s.table.mark0 && s.table.mark1) = true
  · exact ((h.member_marked hm).1 hp).1
  · rw [(h.member_unmarked hm).1 hp]
    exact h.valid.row0

/-- R11, R13: profile 0 is a member of N. -/
theorem zero_member : inSet s.table.negotiated 0 = true := by
  by_cases hm : (s.table.mark0 && s.table.mark1) = true
  · refine (h.member_marked hm).2 ⟨h.valid.row0, ?_⟩
    have hhalf : (s.table.farHalf1 ++ s.table.farHalf0).getLsbD 0 = s.table.farHalf0.getLsbD 0 := by
      rw [BitVec.getLsbD_append]
      rfl
    exact hhalf.trans h.half0
  · exact (h.member_unmarked hm).2 rfl

/-- R124: the backoff of a member is not above atten_max. -/
theorem member_backoff (hp : inSet s.table.negotiated p = true) :
    (s.table.active[p]).backoff ≤ s.settings.attenMax := h.valid.backoff p (h.member_enabled hp)

/-- R8, R13: a member whose row the shadow table enables is a member still once that table is installed. -/
theorem member_installed (hp : inSet s.table.negotiated p = true) (hshadow : (s.table.shadow[p]).enabled = true) :
    inSet s.table.installed.negotiated p = true := by
  by_cases hm : (s.table.mark0 && s.table.mark1) = true
  · have hown : inSet (enabledSet s.table.shadow) p = true := (inSet_enabledSet _ p).trans hshadow
    have hfar := ((h.member_marked hm).1 hp).2
    rw [ProfileTable.installed, if_pos hm]
    unfold inSet at *
    rw [BitVec.getLsbD_and, hown, hfar]
    rfl
  · rw [ProfileTable.installed, if_neg hm, inSet_one]
    exact (h.member_unmarked hm).1 hp

end State.TableLaw

/-! ## Steps 1 to 3, by the members of N (R108, R109, R110) -/

/-- The active profile and the one staged are members of `n`. -/
def State.Within (n : ProfileSet) (s : State) : Prop :=
  inSet n s.tx.active = true ∧ ∀ g, s.tx.staged = some g → inSet n g.profile = true

/-- R108, R109, R110: no switch is staged after step 3. -/
def State.Unstages (s : State) : Prop :=
  ∀ g, s.tx.staged = some g → ¬ inSet s.table.negotiated g.profile = true ∨ g.countdown ≤ 1 ∨
    (¬ inSet s.table.negotiated s.tx.active = true ∧ g.profile < s.tx.active ∧
      ∀ j : Profile, inSet s.table.negotiated j = true → j < s.tx.active → j ≤ g.profile)

section
variable {s m : State} {n : ProfileSet} {g : StagedSwitch} {p : Profile}

theorem State.within_switchedTo_none {answer : AnswerLane} {k : Nat} (hp : inSet n p = true)
    (hm : m = s.switchedTo p none answer k) : m.Within n ∧ m.tx.staged = none := by
  subst hm
  exact ⟨⟨hp, nofun⟩, rfl⟩

/-- R110: the countdown keeps to the members, and leaves nothing staged where it ends. -/
theorem State.within_countStaged {answer : AnswerLane} {k : Nat} (hp : inSet n p = true)
    (hg : inSet n g.profile = true) (hm : m = (s.switchedTo p (some g) answer k).countStaged) :
    m.Within n ∧ (m.tx.staged = none ↔ g.countdown ≤ 1) := by
  subst hm
  rcases Nat.lt_or_ge 1 g.countdown with hc | hc
  · rw [State.countStaged_counts (s := s.switchedTo p (some g) _ _) rfl hc]
    refine ⟨⟨hp, ?_⟩, iff_of_false nofun (by omega)⟩
    rintro _ ⟨rfl⟩
    exact hg
  · rw [State.countStaged_executes (s := s.switchedTo p (some g) _ _) rfl hc]
    exact ⟨⟨hg, nofun⟩, iff_of_true rfl hc⟩

/-- R108 to R110: after step 3 the active profile and the one staged are members of N, and what is staged is known
from what was. -/
theorem State.slotSwitches_within (h0 : inSet s.table.negotiated 0 = true) :
    s.slotSwitches.Within s.table.negotiated ∧ (s.slotSwitches.tx.staged = none ↔ s.Unstages) := by
  by_cases ha : inSet s.table.negotiated s.tx.active = true
  · cases hg : s.tx.staged with
    | none =>
      have hkeeps : s.slotSwitches = s.switchedTo s.tx.active none s.hop.answer 0 := by
        rw [State.slotSwitches_keeps ha hg, ← hg, State.switchedTo_self]
      obtain ⟨hwithin, hnone⟩ := State.within_switchedTo_none ha hkeeps
      exact ⟨hwithin, iff_of_true hnone fun g h => by rw [hg] at h; cases h⟩
    | some g =>
      by_cases hin : inSet s.table.negotiated g.profile = true
      · have hcounts : s.slotSwitches = (s.switchedTo s.tx.active (some g) s.hop.answer 0).countStaged := by
          rw [State.slotSwitches_counts ha hg hin, ← hg, State.switchedTo_self]
        obtain ⟨hwithin, hends⟩ := State.within_countStaged ha hin hcounts
        refine ⟨hwithin, hends.trans ?_⟩
        simp [State.Unstages, hg, hin, ha]
      · obtain ⟨hwithin, hnone⟩ := State.within_switchedTo_none ha (State.slotSwitches_cancels ha hg hin)
        refine ⟨hwithin, iff_of_true hnone ?_⟩
        simp [State.Unstages, hg, hin]
  · have hpos : 0 < s.tx.active := Fin.pos_iff_ne_zero.2 fun hzero => ha (hzero ▸ h0)
    obtain ⟨hp, hbelow, hmax⟩ := highestBelow_isHighest h0 hpos
    cases hg : s.tx.staged with
    | none =>
      obtain ⟨hwithin, hnone⟩ := State.within_switchedTo_none hp (State.slotSwitches_drops ha rfl hg)
      exact ⟨hwithin, iff_of_true hnone fun g h => by rw [hg] at h; cases h⟩
    | some g =>
      by_cases hin : inSet s.table.negotiated g.profile = true
      · by_cases hsame : g.profile = highestBelow s.table.negotiated s.tx.active
        · obtain ⟨hwithin, hnone⟩ := State.within_switchedTo_none hin
            (State.slotSwitches_drops_settles ha hsame.symm hg hin)
          refine ⟨hwithin, iff_of_true hnone fun k hk => .inr (.inr ?_)⟩
          cases hg.symm.trans hk
          exact ⟨ha, hsame ▸ hbelow, fun j hj hlt => hsame ▸ hmax j hj hlt⟩
        · obtain ⟨hwithin, hends⟩ := State.within_countStaged hp hin
            (State.slotSwitches_drops_counts ha rfl hg hin hsame)
          refine ⟨hwithin, hends.trans ⟨fun hc k hk => ?_, fun hunstages => ?_⟩⟩
          · cases hg.symm.trans hk
            exact .inr (.inl hc)
          · rcases hunstages g hg with hout | hc | ⟨-, hlt, hhighest⟩
            · exact absurd hin hout
            · exact hc
            · exact absurd (highestBelow_eq hin hlt hhighest).symm hsame
      · obtain ⟨hwithin, hnone⟩ := State.within_switchedTo_none hp (State.slotSwitches_drops_cancels ha rfl hg hin)
        refine ⟨hwithin, iff_of_true hnone ?_⟩
        simp [State.Unstages, hg, hin]

/-! ## The floor, the ceiling and A (R123, R128, R129) -/

/-- R123: the floor of members of N is not above the ceiling. -/
theorem State.TableLaw.floor_le {t : State} (h : s.TableLaw) (ht : t.Within s.table.negotiated)
    (htable : t.table = s.table) :
    (s.table.active[t.tx.active]).backoff ≤ t.floor ∧ t.floor ≤ s.settings.attenMax := by
  obtain ⟨hactive, hstaged⟩ := ht
  have hlow := h.member_backoff hactive
  unfold State.floor State.row
  rw [htable]
  cases hg : t.tx.staged with
  | none => exact ⟨le_rfl, hlow⟩
  | some g => exact ⟨le_max_left .., max_le hlow (h.member_backoff (hstaged g hg))⟩

theorem State.slotAtten_limited (h : s.power.limit = .limited) : s.slotAtten = s.settings.attenMax := by
  rw [State.slotAtten, h]

theorem clampNat_natCast {lo hi : Nat} (h : lo ≤ hi) (v : Nat) : clampNat lo hi v = max lo (min hi v) := by
  have := clampNat_eq lo hi v h
  omega

theorem State.slotAtten_released (h : s.power.limit = .released) (hfloor : s.floor ≤ s.settings.attenMax) :
    s.slotAtten = max s.floor (min s.settings.attenMax
      (match s.settings.atpcMode with | .fixed => s.settings.fixedAtten | .auto => s.power.a)) := by
  rw [State.slotAtten, h]
  cases hmode : s.settings.atpcMode <;> exact clampNat_natCast hfloor _

/-- R128: A at a slot in RUN is between the floor and the ceiling. -/
theorem State.slotAtten_range (hfloor : s.floor ≤ s.settings.attenMax) :
    s.floor ≤ s.slotAtten ∧ s.slotAtten ≤ s.settings.attenMax := by
  cases hlimit : s.power.limit with
  | limited => rw [State.slotAtten_limited hlimit]; exact ⟨hfloor, le_rfl⟩
  | released => rw [State.slotAtten_released hlimit hfloor]; exact ⟨le_max_left .., max_le hfloor (min_le_left ..)⟩

end

end Sys2Proof.Machine
end

section
/-! A slot in RUN: its descriptor, its power bounds, and the place of the attempt at a swap (R8, R82, R107, R112, R117 to
R119, R128 to R132). -/

namespace Sys2Proof.Machine

/-! ## The descriptor (R82, R112) -/

theorem State.runHcw_eq (s : State) : s.runHcw =
    let ask : Option PendingAsk :=
      if s.hop.lane.state = .asking ∨ s.hop.lane.state = .switching then s.hop.lane.pending else none
    { phase := .run
      askKind := match ask with | none => .none | some a => if a.urgent then .urgent else .ask
      askSeq := s.hop.lane.seq, askProfile := match ask with | none => 0 | some a => a.profile
      ansKind := s.hop.answer.kind
      ansSeq := if s.hop.answer.kind = .none then 0#3 else s.hop.answer.seq
      ansValue := if s.hop.answer.kind = .none then 0#4 else s.hop.answer.value
      powerReq := s.power.request, fade := s.fade.openFade.isSome, capsHalf := s.tx.nextHalf
      capsByte := if s.tx.nextHalf then s.table.ownMask.extractLsb' 8 8 else s.table.ownMask.extractLsb' 0 8 } := by
  simp only [State.runHcw, ProfileTable.capsByte]
  cases hstate : s.hop.lane.state <;> cases hpending : s.hop.lane.pending with
  | none => simp; rfl
  | some a => cases hurgent : a.urgent <;> simp [hurgent] <;> rfl

/-! ## The staged switch at the end of a slot in RUN (R131) -/

section
variable {w t : State} {echo : FrameNo} {txlim : Bool} {owed : Nat} {d : Descriptor}

/-- With nothing staged after step 3 the limit finds nothing to remove. -/
theorem State.FillsSlot.staged_none (h : w.FillsSlot echo txlim owed d t) (hstaged : w.tx.staged = none) :
    t.tx.staged = none ∧ t.hop.answer = w.hop.answer := by
  obtain ⟨hkept, hanswer⟩ := h.kept fun g hg => by simp [State.LimitRemoves, hstaged] at hg
  exact ⟨hkept.trans hstaged, hanswer⟩

/-- R131: the limit removes a staged switch, and stages none. -/
theorem State.FillsSlot.staged_within (h : w.FillsSlot echo txlim owed d t) {n : ProfileSet} (hw : w.Within n) :
    ∀ g, t.tx.staged = some g → inSet n g.profile = true := by
  intro g hg
  by_cases hremoves : ∃ k, w.LimitRemoves txlim k
  · obtain ⟨k, hk⟩ := hremoves
    rw [(h.removed k hk).1] at hg
    cases hg
  · rw [(h.kept (not_exists.1 hremoves)).1] at hg
    exact hw.2 g hg

end

/-! ## A at a slot in RUN (R128, R129, R132) -/

section
variable {w t : State} {echo : FrameNo} {txlim : Bool} {owed : Nat} {d : Descriptor}

/-- R128: A lies between the floor and the ceiling. -/
theorem State.FillsSlot.a_range (h : w.FillsSlot echo txlim owed d t) (hfloor : t.floor ≤ w.settings.attenMax) :
    t.floor ≤ t.power.a ∧ t.power.a ≤ w.settings.attenMax := by
  obtain ⟨p, -, hpower⟩ := h.power
  have hrange := State.slotAtten_range (s := { t with power := p }) (h.settings ▸ hfloor)
  rw [hpower]
  exact h.settings ▸ hrange

/-- R128, R131: with the limit in effect A is the ceiling. -/
theorem State.FillsSlot.a_limited (h : w.FillsSlot echo txlim owed d t) (hlimit : t.power.limit = .limited) :
    t.power.a = w.settings.attenMax := by
  obtain ⟨p, -, hpower⟩ := h.power
  have hp : p.limit = .limited := by rwa [hpower] at hlimit
  rw [hpower, ← h.settings]
  exact State.slotAtten_limited (s := { t with power := p }) hp

/-- R128, R129, R132: without it A is what the mode gives, and held A as the limit goes, in range. -/
theorem State.FillsSlot.a_released (h : w.FillsSlot echo txlim owed d t) (hfloor : t.floor ≤ w.settings.attenMax)
    (hlimit : t.power.limit = .released) {a : Nat} (hgoes : w.power.LimitGoes txlim → a = w.power.heldA.getD w.power.a)
    (hstands : ¬ w.power.LimitGoes txlim → a = w.power.a) :
    t.power.a = max t.floor (min w.settings.attenMax
      (match w.settings.atpcMode with | .fixed => w.settings.fixedAtten | .auto => a)) := by
  obtain ⟨p, hfollows, hpower⟩ := h.power
  have hp : p.limit = .released := by rwa [hpower] at hlimit
  have ha : p.a = a := by
    by_cases hg : w.power.LimitGoes txlim
    · rw [hfollows.goes hg, hgoes hg]
      rfl
    · have hcomes : ¬ w.power.LimitComes txlim := fun hc => by
        have := (hfollows.limit_comes hc).1
        rw [hp] at this
        cases this
      rw [hfollows.stands hcomes hg, hstands hg]
  have hreleased := State.slotAtten_released (s := { t with power := p }) hp (h.settings ▸ hfloor)
  rw [hpower, ← ha, ← h.settings]
  exact hreleased

theorem State.FillsSlot.of_host {host : HostLink} (hhost : w.host.NoSwitch host)
    (h : State.FillsSlot { w with host := host } echo txlim owed d t) : w.FillsSlot echo txlim owed d t :=
  ⟨h.rest, h.tx, hhost.trans h.host, h.descriptor, h.ends, h.runs, h.pilot, h.power, h.flag, h.kept, h.removed⟩

end

/-! ## The slot number and the attempt at a swap (R8, R107) -/

section
variable {s : State}

theorem State.slotEcho_slotSwitches (s : State) (x : SlotRecord) : s.slotSwitches.slotEcho x = s.slotEcho x := by
  obtain ⟨a, g, y, k, hs⟩ := State.Switches.slotSwitches s
  rw [hs]
  rfl

theorem State.trySwap_pending_of_ready (h : s.swapReady = true) : s.trySwap.table.pendingSwap = none := by
  rw [State.trySwap_ready h, State.takeSwap_table]

/-- R8: steps 1 to 3 find nothing to do after a swap that is taken in RUN with the active profile in N. -/
theorem State.TableLaw.trySwap_slotSwitches (h : s.TableLaw) (hrun : s.link.state = .run) (hready : s.swapReady = true)
    (hN : inSet s.table.negotiated s.tx.active = true) :
    s.trySwap.slotSwitches = s.trySwap ∧ s.tx.staged = none := by
  obtain ⟨-, -, hquiet⟩ := s.swapReady_iff.1 hready
  obtain ⟨-, hstaged, hactive, -⟩ := hquiet hrun
  refine ⟨State.slotSwitches_keeps ?_ ?_, hstaged⟩ <;> rw [State.trySwap_ready hready, State.takeSwap_eq]
  · exact h.member_installed hN hactive
  · exact hstaged

end

/-- Settles O42: one slot in RUN, from the state before the attempt at a swap, after it, or between step 3 and it. -/
theorem slotInRunKeepsPowerBounds : Obligations.SlotInRunKeepsPowerBounds := by
  unfold Obligations.SlotInRunKeepsPowerBounds
  intro rest txlim s hs hd hrun hlaw bs slot
  have hslot (u t : State) (owed : Nat) (d : Descriptor) (hrun : u.link.state = .run) (hlaw : u.TableLaw)
      (h : u.slotSwitches.FillsSlot (u.slotEcho (parseSlot bs)) txlim owed d t) : slot u t := by
    obtain ⟨hwithin, hunstages⟩ := u.slotSwitches_within hlaw.zero_member
    obtain ⟨active, staged, answer, k, hw⟩ := State.Switches.slotSwitches u
    generalize u.slotSwitches = w at *
    subst hw
    have hsettings := h.settings
    obtain ⟨p, hfollows, hpower⟩ := h.power
    obtain ⟨hrate, hrequest, -⟩ := hfollows.keeps
    obtain ⟨hlane, hr, hfar⟩ := h.lanes
    obtain ⟨hest, hfade, hdecision, hmonitor⟩ := h.receive
    have hstands : ¬ u.power.LimitComes txlim → ¬ u.power.LimitGoes txlim → _ := hfollows.limit_stands
    have hstagedIn := h.staged_within hwithin
    obtain ⟨hbackoff, hfloor⟩ := hlaw.floor_le ⟨h.active ▸ hwithin.1, hstagedIn⟩ h.table
    have ⟨hlow, hhigh⟩ := h.a_range hfloor
    have hprofile : d.profile = t.tx.active := by rw [h.descriptor, h.active]
    have hatten : d.attenuation = t.power.a := by rw [h.descriptor]
    have hhcw : d.hcw = _ := (congrArg Descriptor.hcw h.descriptor).trans (State.runHcw_eq _)
    have hrequested : t.power.request = u.power.request := by rw [hpower]; exact hrequest
    have hlimit : t.power.limit = p.limit := by rw [hpower]
    have hheld : t.power.heldA = p.heldA := by rw [hpower]
    refine ⟨d, owed, ?_, ?_, hprofile, ?_, ?_, hatten, ?_, ?_, h.ends, h.runs, ?_, ?_, ?_, ?_, ?_, ?_, ?_, hlane, hr,
      hfar, hest, hfade, hdecision, hmonitor, hsettings, ?_, ?_, ?_, ?_, ?_, h.link, h.table, ?_, fun hcomes => ?_,
      fun hgoes => ?_, fun hcomes hgoes => ?_, fun hlim => ?_, fun hrel => ?_⟩
    · rw [h.rest]; rfl
    · rw [h.descriptor]; rfl
    · rw [hprofile, h.active]; exact hwithin.1
    · rw [h.descriptor]
    · simp only [hprofile, hatten]; exact hbackoff.trans hlow
    · rw [hatten]; exact hhigh
    · rw [h.tx]
    · exact h.pilot.trans (by rw [hunstages]; rfl)
    · rw [h.tx]
    · exact fun hpilot => (h.staged_none (h.pilot.1 hpilot).2.1).1
    · rw [h.tx]
    · rw [h.tx]; rfl
    · rw [h.tx]; rfl
    · rw [hpower]; exact hrate
    · exact hrequested
    · rw [hpower]; rfl
    · rw [hhcw]
      simp only [hlane, hrequested]
      rfl
    · rw [h.tx, h.descriptor]
    · rw [hpower]; exact hfollows.sample
    · obtain ⟨hplimit, hpheld⟩ := hfollows.limit_comes hcomes
      exact ⟨hlimit.trans hplimit, hheld.trans hpheld, h.flag (.inl hcomes)⟩
    · obtain ⟨hplimit, hpheld⟩ := hfollows.limit_goes hgoes
      exact ⟨hlimit.trans hplimit, hheld.trans hpheld, h.flag (.inr hgoes)⟩
    · obtain ⟨hplimit, hpheld⟩ := hfollows.limit_stands hcomes hgoes
      exact ⟨hlimit.trans hplimit, hheld.trans hpheld⟩
    · rw [hatten]; exact h.a_limited hlim
    · rw [hatten]
      exact h.a_released hfloor hrel (fun hg => if_pos hg) fun hg => if_neg hg
  refine ⟨_, exec_slot hs hd rest txlim, ?_⟩
  rcases State.slotEvent_run_fills (parseSlot bs) txlim hrun with
    ⟨owed, d, hfills⟩ | ⟨hpending, ⟨owed, d, u, hfills, hu⟩ | ⟨host, owed, d, hhost, hfills⟩⟩
  · have hecho : s.trySwap.slotEcho (parseSlot bs) = s.slotEcho (parseSlot bs) := s.slotEcho_trySwap _
    have hlater := hslot s.trySwap _ owed d (by simpa using hrun) (State.trySwap_tableLaw s hlaw) (hecho.symm ▸ hfills)
    exact ⟨fun hnone => by rwa [State.trySwap_none hnone] at hlater, .inl hlater⟩
  · exact ⟨fun hnone => absurd hnone hpending, .inr (.inl ⟨u, hslot s u owed d hrun hlaw hfills, hu⟩)⟩
  · refine ⟨fun hnone => absurd hnone hpending, .inr (.inr ⟨fun hfails => ?_, fun htaken => ⟨host, ?_⟩⟩)⟩
    · have hunready : s.slotSwitches.swapReady ≠ true := fun hready => hfails (State.trySwap_pending_of_ready hready)
      rw [State.trySwap_unready (s := { s.slotSwitches with host := host }) hunready] at hfills
      exact hslot s _ owed d hrun hlaw (hfills.of_host hhost)
    · have hready : State.swapReady { s.slotSwitches with host := host } = true := by
        by_contra hunready
        rw [State.trySwap_unready (s := s.slotSwitches) hunready] at htaken
        exact htaken (by simpa using hpending)
      obtain ⟨⟨hactive, -⟩, -⟩ := s.slotSwitches_within hlaw.zero_member
      have hx : State.TableLaw { s.slotSwitches with host := host } := hlaw.same
      obtain ⟨hkeeps, hnone⟩ := hx.trySwap_slotSwitches (by simpa using hrun) hready (by simpa using hactive)
      obtain ⟨htx, hhop, -⟩ := State.trySwap_switches (txlim := txlim) { s.slotSwitches with host := host }
      refine ⟨hslot _ _ owed d (by simpa using hrun) (State.trySwap_tableLaw _ hx) ?_, hactive, hnone, ?_, ?_⟩
      · rw [hkeeps, State.slotEcho_trySwap]
        exact s.slotEcho_slotSwitches (parseSlot bs) ▸ hfills
      · exact hfills.active.trans (congrArg TransmitRecord.active htx)
      · exact (hfills.staged_none (htx ▸ hnone)).2.trans (congrArg (·.answer) hhop)

end Sys2Proof.Machine
end
